-- ==== Sys2Proof/Word.lean ====
section
/-! DEFINITION. The words of the Lijora 3206: octets and multi-octet fields as they stand on the ring and on the head lines. -/

namespace Sys2Proof

/-- One octet of a frame or of a head report (R160, R208). -/
abbrev Byte := BitVec 8

/-- A two-octet field (R199). -/
abbrev Half := BitVec 16

/-- A four-octet field: a shell id, a nominal wall, a count of advance pulses (R32, R202). -/
abbrev Word := BitVec 32

end Sys2Proof
end

