-- ==== Sys2Proof/Config.lean ====
section
/-! DEFINITION. The fixed sizes of the part. The spec leaves no result of a command open, so no free value stands here. -/

namespace Sys2Proof.Config

/-- Slots of the shell table (1.1). -/
abbrev slots : Nat := 16
/-- Places of the arming queue (R9). -/
def armingPlaces : Nat := 4
/-- Places of a claim list (R141). -/
def claimPlaces : Nat := 4
/-- Strips of the pool (R85). -/
def poolStrips : Nat := 4096
/-- Stations of a record at most; a stamp carries this number for a station at or beyond it (R42, R16). -/
def maxStations : Nat := 1024
/-- The highest station number (R128). -/
def lastStation : Nat := 1023
/-- Zones of a record at most (R127). -/
def maxZones : Nat := 16
/-- Sectors of a strip. -/
abbrev sectors : Nat := 12
/-- Head ports. -/
abbrev heads : Nat := 6
/-- Material entries (4.1). -/
abbrev materials : Nat := 32
/-- Limit sets (6.1). -/
abbrev limitSets : Nat := 4
/-- Places of the reply queue (R172). -/
def replyPlaces : Nat := 16
/-- Replies of one turn at most (R180). -/
def turnReplies : Nat := 8
/-- Entries of the station table (R167). -/
abbrev stationEntries : Nat := 8
/-- Where a 16-bit counter stops (R7, R182, 3.5). -/
def counterTop : Nat := 65535
/-- Turn units of one revolution (4.1). -/
def revolution : Nat := 4096
/-- Content bits at which a frame has reached its 257th octet (R162). -/
def longFrameBits : Nat := 257 * 8

end Sys2Proof.Config
end

