-- ==== Sys2Proof/Syntax.lean ====
section
/-! DEFINITION. The commands of the part: one constructor of `Instr` for each row of spec/opcode_table.json, with the operands the row's event carries. Request fields are held as they stand in the request body (R202), so that values out of their range can be written and are refused by the owning block. -/

namespace Sys2Proof

/-- The first octets of a REQUEST frame that the part uses beside the code (R160, R198): destination, source and tag. -/
structure Header where
  dest : Byte
  source : Byte
  tag : Byte
  deriving DecidableEq, Repr

/-- A record reference as carried (R200): the form octet, then octets 1 to 4 read least significant octet first. -/
structure RecordRef where
  form : Byte
  octets : Word
  deriving DecidableEq, Repr

/-- The seven shell fields of ARM and TEMPLATE WRITE, in body order (R202). -/
structure ShellFields where
  grade : Byte
  limitSet : Byte
  hand : Byte
  pitch : Half
  nominal : Word
  leadCrop : Byte
  tailCrop : Byte
  deriving DecidableEq, Repr

/-- The selected fields of AMEND: a field is present when its bit of the field-select set is set (R202, R24). -/
structure AmendFields where
  shellId : Option Word
  limitSet : Option Byte
  tailCrop : Option Byte
  grade : Option Byte
  hand : Option Byte
  pitch : Option Half
  nominal : Option Word
  leadCrop : Option Byte
  clearHistory : Option Half
  deriving DecidableEq, Repr

/-- The seven values of TRACKER SET (R202, 2.8). -/
structure TrackerFields where
  advanceScale : Half
  headPlane : Half
  closeDistance : Half
  stallTime : Half
  spinPulses : Half
  spinTimeout : Half
  debounce : Byte
  deriving DecidableEq, Repr

/-- The six values of HEAD SET (R202, 3.5); the offset is in two's complement (R199). -/
structure HeadFields where
  angle : Half
  offset : Half
  form : Byte
  depth : Byte
  mode : Byte
  silence : Byte
  deriving DecidableEq, Repr

/-- The eight values of MATERIAL WRITE (R202, 4.1). -/
structure MaterialValues where
  gradeCode : Half
  v0 : Half
  k : Byte
  tmin : Half
  tref : Half
  tmax : Half
  echoFloor : Byte
  weak : Byte
  deriving DecidableEq, Repr

/-- The masks and selected values of LIMIT WRITE (R202, R114). -/
structure LimitFields where
  keep : Byte
  put : Byte
  lower : Option Half
  upper : Option Half
  ecc : Option Half
  settle : Option Byte
  eccCells : Option Byte
  guard : Option Byte
  minGood : Option Half
  deriving DecidableEq, Repr

/-- The body of STATIONS WRITE (R202, R169): for each entry 0 to 7 the address and rights carried when it is selected, and bits 8 to 15 of the entry-select set, which name no entry and add none to the body (R199). -/
structure StationFields where
  highSelect : Byte
  entries : Vector (Option (Byte × Byte)) Config.stationEntries
  deriving DecidableEq, Repr

/-- An octet received on a head line, and whether its stop bit was found at the wrong level (R49). -/
structure RunOctet where
  value : Byte
  fault : Bool
  deriving DecidableEq, Repr

/-- The commands of the part, in the order of spec/opcode_table.json. -/
inductive Instr where
  /-- ARM (R19). -/
  | arm (h : Header) (shellId : Word) (f : ShellFields)
  /-- DISARM (R20). -/
  | disarm (h : Header) (ref : RecordRef)
  /-- LOOKUP (R21). -/
  | lookup (h : Header) (ref : RecordRef)
  /-- FIND (R22): the state set, the verdict set and the flags set as masks. -/
  | find (h : Header) (states verdicts : Byte) (flags : BitVec 24)
  /-- AMEND (R23, R24). -/
  | amend (h : Header) (ref : RecordRef) (f : AmendFields)
  /-- TEMPLATE WRITE (R25). -/
  | templateWrite (h : Header) (f : ShellFields)
  /-- TEMPLATE READ (R26). -/
  | templateRead (h : Header)
  /-- TRACKER SET (R47). -/
  | trackerSet (h : Header) (f : TrackerFields)
  /-- HEAD SET (R56). -/
  | headSet (h : Header) (head : Byte) (f : HeadFields)
  /-- HEAD ENABLE (R57). -/
  | headEnable (h : Header) (head : Byte)
  /-- HEAD DISABLE (R58). -/
  | headDisable (h : Header) (head : Byte)
  /-- HEAD READ (R59). -/
  | headRead (h : Header) (head : Byte)
  /-- MATERIAL WRITE (R71). -/
  | materialWrite (h : Header) (entry : Byte) (f : MaterialValues)
  /-- MATERIAL CLEAR (R72). -/
  | materialClear (h : Header) (entry : Byte)
  /-- MATERIAL READ (R73). -/
  | materialRead (h : Header) (entry : Byte)
  /-- POOL STATUS (R89). -/
  | poolStatus (h : Header)
  /-- POOL SET (R90). -/
  | poolSet (h : Header) (setting : Byte)
  /-- READ STRIPS (R106, R107). -/
  | readStrips (h : Header) (ref : RecordRef) (form : Byte) (first : Half) (count : Byte)
  /-- LIMIT WRITE (R114). -/
  | limitWrite (h : Header) (set : Byte) (f : LimitFields)
  /-- LIMIT READ (R116). -/
  | limitRead (h : Header) (set : Byte)
  /-- READ ZONES (R134). -/
  | readZones (h : Header) (ref : RecordRef)
  /-- REJUDGE (R136). -/
  | rejudge (h : Header) (ref : RecordRef)
  /-- CLAIM (R142). -/
  | claim (h : Header) (ref : RecordRef)
  /-- RELEASE (R144). -/
  | release (h : Header) (ref : RecordRef)
  /-- RETIRE with option NOW (R146). The option octet is 0; a code that names no option is carried here too and is refused RANGE (R146, R199; log entry 14). -/
  | retireNow (h : Header) (ref : RecordRef) (option : Byte)
  /-- RETIRE with option DEFERRED (R146). -/
  | retireDeferred (h : Header) (ref : RecordRef)
  /-- RETIRE with option FORCE (R146). -/
  | retireForce (h : Header) (ref : RecordRef)
  /-- SET ADDRESS (R165). -/
  | setAddress (h : Header) (part : Byte)
  /-- STATIONS WRITE (R169). -/
  | stationsWrite (h : Header) (f : StationFields)
  /-- JOIN RING (R176). -/
  | joinRing (h : Header)
  /-- LEAVE RING (R177). -/
  | leaveRing (h : Header)
  /-- NOTICE MASK (R187). -/
  | noticeMask (h : Header) (mask : Half)
  /-- FETCH NOTICE (R188). -/
  | fetchNotice (h : Header)
  /-- PART STATUS (R191). -/
  | partStatus (h : Header)
  /-- COUNTERS READ (R192). -/
  | countersRead (h : Header)
  /-- COUNTERS CLEAR (R193). -/
  | countersClear (h : Header)
  /-- RESTART (R194). -/
  | restart (h : Header)
  /-- A request with an unknown code or a body of the wrong length (R170, check 2). -/
  | malformed (h : Header) (code : Byte) (body : List Byte)
  /-- A broadcast request other than a RESTART from address 1 (R166). -/
  | ignoredBroadcast (source code : Byte) (body : List Byte)
  /-- A POLL frame (R163, R178). -/
  | poll (dest source : Byte)
  /-- A closed frame that R162 discards, given by its content bits in the order received. -/
  | frameDiscard (content : List Bool)
  /-- A frame reaches its 257th content octet (R162). -/
  | longFrame
  /-- An abort inside a frame (R159). -/
  | abort
  /-- The twelfth 1 of an idle run (R175). -/
  | idleRun
  /-- The sixth 1 of a release (R179). -/
  | takeTurn
  /-- The last bit of a reply's closing delimiter is driven (R180). -/
  | replySent
  /-- The sixth 1 of the part's own release is driven (R180). -/
  | turnEnd
  /-- A delimiter received while ACTIVE (R181). -/
  | turnCut
  /-- The eighth 1 of a cut is driven (R181). -/
  | cutEnd
  /-- The raw ENTRY level changes (R28). -/
  | entryChange
  /-- A debounce interval runs its full length towards lit (R28, R29). -/
  | litEdge
  /-- A debounce interval runs its full length towards dark (R28, R31). -/
  | darkEdge
  /-- An advance pulse (R32, R44). -/
  | advancePulse
  /-- The stall timer reaches the stall time (R46). -/
  | stall
  /-- A spin pulse (R35). -/
  | spinPulse
  /-- A spin index pulse (R36). -/
  | indexPulse
  /-- The spin timer reaches the spin timeout (R37). -/
  | spinTimeout
  /-- The octets of a report arrive at a head port (R49 to R52); the port index is the head number less one. -/
  | headReport (port : Fin Config.heads) (octets : List Byte)
  /-- The octets of a run that R50 counts CORRUPT arrive, with the run's end where R50 counts it there. -/
  | corrupt (port : Fin Config.heads) (octets : List RunOctet)
  /-- The octets of a run arrive and the run ends; a DISABLED port counts it STRAY (R50). -/
  | stray (port : Fin Config.heads) (octets : List RunOctet)
  /-- The silence timer of a port reaches the silence time (R55). -/
  | silenceTimeout (port : Fin Config.heads)
  /-- The shot engine takes and handles one report (R61). -/
  | shotService
  /-- The rejudge engine takes its next step (R137, R138). -/
  | rejudgeStep
  /-- The supply is applied with the straps at the given levels (R197, R164). -/
  | powerOn (straps : BitVec 2)
  /-- A head line stays idle for 20 bit times (R49). -/
  | lineIdleGap (port : Fin Config.heads)
  /-- A delimiter is received on RING IN, closing no frame or one that is ignored (R159, R162). -/
  | delimiterReceived
  deriving DecidableEq, Repr

end Sys2Proof
end

