-- ==== Sys2Proof/Machine/State.lean ====
section
/-! DEFINITION. The state of the part as plain data: every register, list, counter, mode and line that spec/ names, and the queue of waiting commands; the state after power-on. -/

namespace Sys2Proof.Machine

/-! ## Named values -/

/-- Life states of a record (1.1). -/
inductive LifeState where
  | free | armed | measuring | finishing | complete | void
  deriving DecidableEq, Repr

/-- Sense of rotation (1.1). -/
inductive Hand where
  | forward | counter
  deriving DecidableEq, Repr

/-- Verdict of a record (R6). -/
inductive Verdict where
  | none | accept | cut | reject | incomplete
  deriving DecidableEq, Repr

/-- State of a strip (R92). -/
inductive StripState where
  | opened | closed
  deriving DecidableEq, Repr

/-- State of a cell (R94). -/
inductive CellState where
  | empty | opened | settled | gap | sparse
  deriving DecidableEq, Repr

/-- Outcome of a cell (R118 to R120). -/
inductive CellOutcome where
  | none | pass | thin | thick | thinThick
  deriving DecidableEq, Repr

/-- Level of the ENTRY input, and the entry state after debounce (2.1). -/
inductive Level where
  | dark | lit
  deriving DecidableEq, Repr

/-- A timer is stopped or running; how long it has run is not held (log entry 2). -/
inductive Timer where
  | stopped | running
  deriving DecidableEq, Repr

/-- Spin state (2.4). -/
inductive SpinState where
  | unsynced | synced
  deriving DecidableEq, Repr

/-- Role of a tracking context (R38). -/
inductive Role where
  | measuring | finishing
  deriving DecidableEq, Repr

/-- State of a head port (3.1). -/
inductive HeadState where
  | disabled | idle | running | silent
  deriving DecidableEq, Repr

/-- Report form of a port (3.5). -/
inductive ReportForm where
  | basic | full
  deriving DecidableEq, Repr

/-- Full-queue mode of a port (R53). -/
inductive QueueMode where
  | hold | drop
  deriving DecidableEq, Repr

/-- The fourteen counters of a head port (3.5). -/
inductive HeadCounter where
  | good | weak | noEcho | saturated | window | unplaced | orphan | beyond | late | pool | corrupt | missed | overrun | stray
  deriving DecidableEq, Repr

/-- Ring state (8.7). -/
inductive RingState where
  | offRing | joining | onRing | active
  deriving DecidableEq, Repr

/-- Receiver state (R159). -/
inductive RxState where
  | hunt | opened | inFrame
  deriving DecidableEq, Repr

/-- What the part drives in ACTIVE: replies, the six 1s of its release, or the eight 1s of a cut (R180, R181); nothing outside a turn. -/
inductive TurnPhase where
  | none | sending | releasing | cutting
  deriving DecidableEq, Repr

/-- The eight ring counters (R182). -/
inductive RingCounter where
  | check | format | long | aborts | shed | turnCut | ignoredBroadcast | denied
  deriving DecidableEq, Repr

/-- The rights of ring stations (8.5). -/
inductive Right where
  | view | measure | judge | hold | retire | setup
  deriving DecidableEq, Repr

/-- The outcomes that replies carry (8.6, R203). -/
inductive ReplyCode where
  | done | started | pending | notFound | range | state | busy | full | queueFull | duplicate | noGrade | inUse | held | notHeld | denied | malformed
  deriving DecidableEq, Repr

/-- The eleven notice kinds, in order of priority (9.1). -/
inductive NoticeKind where
  | poolExhausted | stall | shellVoid | headSilent | headOverrun | spinLost | evicted | unrecorded | requestsShed | shellComplete | rejudgeDone
  deriving DecidableEq, Repr

/-- The ten history flags (R5). -/
inductive HistoryFlag where
  | spinLost | stalled | truncated | poolShort | clamped | headSilent | cutShort | zonesMerged | tooShort | unnamed
  deriving DecidableEq, Repr

/-- The five derived flags (R126). -/
inductive DerivedFlag where
  | thin | thick | eccentric | gap | noisy
  deriving DecidableEq, Repr

/-- The outcome kinds of strips and zones (R108, 6.4); CROP is for strips only. -/
inductive Kind where
  | thin | thick | ecc | gap | crop
  deriving DecidableEq, Repr

/-- The four controls of a limit set (6.1). -/
inductive Control where
  | judgeExtreme | acceptWeak | gapsAreDefects | noisyIsGap
  deriving DecidableEq, Repr

/-! ## Records, strips, cells and zones -/

/-- A cell (5.3); the values a new cell holds are those of R93. -/
structure Cell where
  state : CellState := .empty
  accepted : Nat := 0
  rejected : Nat := 0
  need : Nat := 0
  min : Nat := 0
  max : Nat := 0
  sum : Nat := 0
  worst : Int := 0
  outcome : CellOutcome := .none
  noisy : Bool := false
  deriving DecidableEq, Repr

/-- A strip (5.2); its station is its position in its record's strip list (R86; log entry 18). A new strip holds the values of R92 and R93. -/
structure Strip where
  state : StripState := .opened
  kinds : BitVec 5 := 0
  ecc : Option Nat := Option.none
  cells : Vector Cell Config.sectors := Vector.replicate _ {}
  deriving DecidableEq, Repr

/-- A zone (6.4). -/
structure Zone where
  first : Nat
  last : Nat
  kinds : BitVec 4
  worst : Int
  deriving DecidableEq, Repr

/-- The seven shell settings that a record takes from ARM or from the template (1.8). -/
structure ShellSettings where
  grade : Fin Config.materials
  limitSet : Fin Config.limitSets
  hand : Hand
  pitch : Nat
  nominal : Nat
  leadCrop : Nat
  tailCrop : Nat
  deriving DecidableEq, Repr

/-- A slot of the shell table: its generation and its record (1.1). -/
structure Record where
  generation : Byte
  state : LifeState
  rejudging : Bool
  retirePending : Bool
  shellId : Option Word
  shell : ShellSettings
  length : Option Nat
  lastTemp : Option Nat
  strips : List Strip
  zones : List Zone
  claims : List Byte
  verdict : Verdict
  history : BitVec 10
  derived : BitVec 5
  accepted : Nat
  rejected : Nat
  late : Nat
  deriving DecidableEq, Repr

/-- The settings that a FREE record reads (R2). -/
def ShellSettings.zero : ShellSettings :=
  { grade := 0, limitSet := 0, hand := .forward, pitch := 0, nominal := 0, leadCrop := 0, tailCrop := 0 }

/-- A FREE record in a slot of the given generation (R2). -/
def Record.free (generation : Byte) : Record :=
  { generation, state := .free, rejudging := false, retirePending := false, shellId := none, shell := .zero,
    length := none, lastTemp := none, strips := [], zones := [], claims := [], verdict := .none, history := 0,
    derived := 0, accepted := 0, rejected := 0, late := 0 }

/-- The template at power-on (1.8). -/
def ShellSettings.powerOnTemplate : ShellSettings :=
  { grade := 0, limitSet := 0, hand := .forward, pitch := 50, nominal := 20000, leadCrop := 2, tailCrop := 2 }

/-! ## The tracker -/

/-- The seven tracker settings (2.8). -/
structure TrackerSettings where
  advanceScale : Nat
  headPlane : Nat
  closeDistance : Nat
  stallTime : Nat
  spinPulses : Nat
  spinTimeout : Nat
  debounce : Nat
  deriving DecidableEq, Repr

/-- The tracker settings at power-on (2.8). -/
def TrackerSettings.powerOn : TrackerSettings :=
  { advanceScale := 2000, headPlane := 1500, closeDistance := 50, stallTime := 2000, spinPulses := 1024,
    spinTimeout := 1000, debounce := 5 }

/-- A tracking context (R38). -/
structure Context where
  slot : Fin Config.slots
  generation : Byte
  front : Word
  tail : Option Word
  role : Role
  deriving DecidableEq, Repr

/-- The shell tracker (2.1), with the ENTRY input line. -/
structure Tracker where
  raw : Level
  entry : Level
  candidate : Option Word
  advance : Word
  stallTimer : Timer
  spinCount : Half
  spin : SpinState
  spinTimer : Timer
  slips : Nat
  contexts : List Context
  blind : Bool
  settings : TrackerSettings
  deriving DecidableEq, Repr

/-! ## Head ports -/

/-- The six settings of a head port (3.5). -/
structure HeadSettings where
  angle : Nat
  offset : Int
  form : ReportForm
  depth : Nat
  mode : QueueMode
  silence : Nat
  deriving DecidableEq, Repr

/-- The stamp of a report (R41, R42). -/
inductive Stamp where
  | unplaced
  | placed (slot : Fin Config.slots) (generation : Byte) (station angle : Nat) (sector : Fin Config.sectors)
  deriving DecidableEq, Repr

/-- A stamped report in a port's queue (3.3); the temperature is present in the FULL form. -/
structure Report where
  sequence : Byte
  interval : Nat
  amplitude : Nat
  temperature : Option Nat
  stamp : Stamp
  deriving DecidableEq, Repr

/-- The line run of a port (3.1, R49): ignoring octets until a gap; idle, so that the next octet begins a run; gathering octets towards a report; at or beyond the form's length (`spent`), with whether it was counted CORRUPT and whether octets continued it; or a run on a DISABLED port. The line is modelled by octets (log entry 20). -/
inductive LineRun where
  | ignoring
  | idle
  | gathering (octets : List Byte) (fault : Bool)
  | spent (counted : Bool) (extra : Bool)
  | stray
  deriving DecidableEq, Repr

/-- A head port (3.1), with its ready line. -/
structure HeadPort where
  state : HeadState
  settings : HeadSettings
  queue : List Report
  expected : Option Byte
  line : LineRun
  silenceTimer : Timer
  counters : Vector Nat 14
  ready : Bool
  deriving DecidableEq, Repr

/-- The power-on angles of heads 1 to 6 (3.5). -/
def powerOnAngle : Fin Config.heads → Nat
  | 0 => 0
  | 1 => 682
  | 2 => 1365
  | 3 => 2048
  | 4 => 2730
  | 5 => 3413

/-- A head port at power-on (R60): it waits for its first idle gap. -/
def HeadPort.powerOn (i : Fin Config.heads) : HeadPort :=
  { state := .disabled
    settings := { angle := powerOnAngle i, offset := 0, form := .full, depth := 8, mode := .hold, silence := 20 }
    queue := [], expected := none, line := .ignoring, silenceTimer := .stopped, counters := Vector.replicate 14 0,
    ready := false }

/-! ## Materials, limit sets and the rejudge engine -/

/-- The eight fields of a DEFINED material entry (4.1). -/
structure MaterialFields where
  gradeCode : Nat
  v0 : Nat
  k : Nat
  tmin : Nat
  tref : Nat
  tmax : Nat
  echoFloor : Nat
  weak : Nat
  deriving DecidableEq, Repr

/-- A material entry: EMPTY (no fields) or DEFINED, with its reference count (R68, R69). -/
structure Material where
  fields : Option MaterialFields
  refs : Nat
  deriving DecidableEq, Repr

/-- A limit set (6.1). -/
structure LimitSet where
  lower : Nat
  upper : Nat
  eccLimit : Nat
  settle : Nat
  eccCells : Nat
  guard : Nat
  minGood : Nat
  controls : BitVec 4
  deriving DecidableEq, Repr

/-- A limit set at power-on (6.1, R113). -/
def LimitSet.powerOn : LimitSet :=
  { lower := 100, upper := 100, eccLimit := 100, settle := 3, eccCells := 8, guard := 1, minGood := 3000, controls := 0 }

/-- A run of the rejudge engine (6.7): present while the engine is RUNNING. -/
structure RejudgeRun where
  slot : Fin Config.slots
  copy : LimitSet
  reached : Nat
  deriving DecidableEq, Repr

/-! ## Notices -/

/-- The subject of a notice (R185). -/
inductive Subject where
  | none
  | head (number : Nat)
  | shell (id : Word)
  | slot (slot : Fin Config.slots) (generation : Byte)
  deriving DecidableEq, Repr

/-- The pending entry of a notice kind (R184). -/
structure NoticeEntry where
  pending : Bool := false
  count : Nat := 0
  subject : Subject := .none
  deriving DecidableEq, Repr

/-- The notice unit (9.1), with the attention line. -/
structure NoticeUnit where
  entries : Vector NoticeEntry 11
  mask : BitVec 11
  attention : Bool
  deriving DecidableEq, Repr

/-- The notice unit at power-on (R190). -/
def NoticeUnit.powerOn : NoticeUnit :=
  { entries := Vector.replicate 11 {}, mask := BitVec.allOnes 11, attention := false }

/-! ## The ring port -/

/-- The effect a queued reply takes when it has been sent (R172). -/
inductive ReplyEffect where
  | none
  | address (part : BitVec 4)
  | leave
  deriving DecidableEq, Repr

/-- A built reply (R171): what its frame holds, and the effect it holds. -/
structure Reply where
  dest : Byte
  source : Byte
  code : Byte
  tag : Byte
  outcome : ReplyCode
  body : List Byte
  effect : ReplyEffect
  deriving DecidableEq, Repr

/-- A held entry of the station table (R167). -/
structure Station where
  address : Byte
  rights : BitVec 6
  deriving DecidableEq, Repr

/-- The receiver (R159): its state, its count of 1s, whether a 0 preceded them, whether they began with the first bit after a delimiter, whether the 0 before them was gathered as content, and the content gathered. -/
structure Receiver where
  state : RxState
  ones : Nat
  afterZero : Bool
  fresh : Bool
  zeroKept : Bool
  content : List Bool
  deriving DecidableEq, Repr

/-- The receiver at power-on (R159, R183). -/
def Receiver.powerOn : Receiver :=
  { state := .hunt, ones := 0, afterZero := false, fresh := false, zeroKept := false, content := [] }

/-- The ring port (8.1), with the BYPASS and RING OUT lines, the turn in progress, the bits it has still to drive, and the bit waiting to be repeated one bit late (R174). Output lines are held as state (log entry 22). -/
structure RingPort where
  state : RingState
  bypass : Bool
  rx : Receiver
  part : BitVec 4
  strap : BitVec 2
  permit : Bool
  replies : List Reply
  stations : Vector (Option Station) Config.stationEntries
  counters : Vector Nat 8
  phase : TurnPhase
  sentInTurn : Nat
  leaveMarked : Bool
  toDrive : List Bool
  held : Option Bool
  ringOut : Option Bool
  deriving DecidableEq, Repr

/-- The ring port at power-on with the straps at the given levels (R164, R183). -/
def RingPort.powerOn (straps : BitVec 2) : RingPort :=
  { state := .joining, bypass := true, rx := .powerOn, part := 10, strap := straps, permit := false, replies := [],
    stations := Vector.replicate _ none, counters := Vector.replicate 8 0, phase := .none, sentInTurn := 0,
    leaveMarked := false, toDrive := [], held := none, ringOut := none }

/-! ## The whole part -/

/-- The state of the part. `pending` is the queue of waiting commands, first in, first out, and `ringIn` the bits that wait on RING IN; these two are the model's own (log entries 1 and 3). -/
structure State where
  slots : Vector Record Config.slots
  armQueue : List (Fin Config.slots)
  completion : List (Fin Config.slots)
  template : ShellSettings
  tracker : Tracker
  heads : Vector HeadPort Config.heads
  pointer : Fin Config.heads
  materials : Vector Material Config.materials
  freeStrips : Nat
  eviction : Bool
  limits : Vector LimitSet Config.limitSets
  engine : Option RejudgeRun
  ring : RingPort
  notices : NoticeUnit
  pending : List Instr
  ringIn : List Bool
  deriving DecidableEq, Repr

/-- The tracker when the supply is applied with the ENTRY line at a level (R48): a lit level differs from the entry state DARK, and the candidate count is then the count at that moment. -/
def Tracker.powerOn (raw : Level) : Tracker :=
  { raw, entry := .dark, candidate := if raw = .lit then some 0 else none, advance := 0, stallTimer := .stopped,
    spinCount := 0, spin := .unsynced, spinTimer := .stopped, slips := 0, contexts := [], blind := false,
    settings := .powerOn }

/-- Every block as R197 gives it at power-on, for given strap and ENTRY levels; no command waits. -/
def State.powerOn (straps : BitVec 2) (raw : Level) : State :=
  { slots := Vector.replicate _ (Record.free 0), armQueue := [], completion := [], template := .powerOnTemplate,
    tracker := .powerOn raw, heads := Vector.ofFn HeadPort.powerOn, pointer := 5,
    materials := Vector.replicate _ { fields := none, refs := 0 }, freeStrips := Config.poolStrips, eviction := true,
    limits := Vector.replicate _ .powerOn, engine := none, ring := .powerOn straps, notices := .powerOn,
    pending := [], ringIn := [] }

/-- The part right after power-on (R197). The two inputs that the spec does not fix stand at 0 (straps, log entry 5) and DARK (ENTRY, log entry 6). -/
def State.reset : State := State.powerOn 0 .dark

/-- Why a step stops with a fault: never. The spec gives the part no fault, so the type has no constructor (log entry 19); safe. -/
inductive Fault
  deriving DecidableEq, Repr

/-- Why a command is refused by the model. -/
inductive Refusal where
  /-- Raised by `exec`'s arm of a command that has no meaning yet; no arm raises it now. Safe: the model stops where the part goes on. -/
  | notModelled (mnemonic : String)
  deriving DecidableEq, Repr

end Sys2Proof.Machine
end

