-- ==== Sys2Proof/Machine/Flags.lean ====
section
/-! DEFINITION. The codes of the enumerations and sets (R199, R203), and the operations on sets of flags, kinds, controls, rights and notice kinds. -/

namespace Sys2Proof.Machine

/-! ## Codes -/

/-- Record state codes (R199). -/
def LifeState.code : LifeState → Nat
  | .free => 0 | .armed => 1 | .measuring => 2 | .finishing => 3 | .complete => 4 | .void => 5

/-- Hand codes (R199). -/
def Hand.code : Hand → Nat
  | .forward => 0 | .counter => 1

/-- Verdict codes (R199). -/
def Verdict.code : Verdict → Nat
  | .none => 0 | .accept => 1 | .cut => 2 | .reject => 3 | .incomplete => 4

/-- Strip state codes (R205). -/
def StripState.code : StripState → Nat
  | .opened => 0 | .closed => 1

/-- Cell state codes of the SUMMARY form (R206). -/
def CellState.code : CellState → Nat
  | .empty => 0 | .opened => 1 | .gap => 2 | .sparse => 3 | .settled => 4

/-- Cell codes of the FULL form (R207): a SETTLED cell's code gives its outcome. -/
def cellCode (s : CellState) (o : CellOutcome) : Nat :=
  match s with
  | .empty => 0 | .opened => 1 | .gap => 2 | .sparse => 3
  | .settled => match o with
    | .none => 4 | .pass => 4 | .thin => 5 | .thick => 6 | .thinThick => 7

/-- Spin state codes (R199). -/
def SpinState.code : SpinState → Nat
  | .unsynced => 0 | .synced => 1

/-- The role of a context is carried with the record state codes (R204). -/
def Role.code : Role → Nat
  | .measuring => 2 | .finishing => 3

/-- Head state codes (R199). -/
def HeadState.code : HeadState → Nat
  | .disabled => 0 | .idle => 1 | .running => 2 | .silent => 3

/-- Report form codes (R199). -/
def ReportForm.code : ReportForm → Nat
  | .basic => 0 | .full => 1

/-- Full-queue mode codes (R199). -/
def QueueMode.code : QueueMode → Nat
  | .hold => 0 | .drop => 1

/-- Ring state codes (R199). -/
def RingState.code : RingState → Nat
  | .offRing => 0 | .joining => 1 | .onRing => 2 | .active => 3

/-- Outcome codes (R203). -/
def ReplyCode.code : ReplyCode → Byte
  | .done => 0x00 | .started => 0x01 | .pending => 0x02 | .notFound => 0x10 | .range => 0x11 | .state => 0x12
  | .busy => 0x13 | .full => 0x14 | .queueFull => 0x15 | .duplicate => 0x16 | .noGrade => 0x17 | .inUse => 0x18
  | .held => 0x19 | .notHeld => 0x1A | .denied => 0x1B | .malformed => 0x1C

/-- A Bool carried as an octet or bit: 1 for set, asserted, present or ON (R199, R200). -/
def flagCode (b : Bool) : Nat := if b then 1 else 0

/-! ## Members of sets: bit n stands for the member with code n (R199) -/

/-- History flag codes (R199). -/
def HistoryFlag.code : HistoryFlag → Nat
  | .spinLost => 0 | .stalled => 1 | .truncated => 2 | .poolShort => 3 | .clamped => 4 | .headSilent => 5
  | .cutShort => 6 | .zonesMerged => 7 | .tooShort => 8 | .unnamed => 9

/-- The set of one history flag. -/
def HistoryFlag.mask (f : HistoryFlag) : BitVec 10 := BitVec.twoPow 10 f.code

/-- Derived flag codes (R199). -/
def DerivedFlag.code : DerivedFlag → Nat
  | .thin => 0 | .thick => 1 | .eccentric => 2 | .gap => 3 | .noisy => 4

/-- The set of one derived flag. -/
def DerivedFlag.mask (f : DerivedFlag) : BitVec 5 := BitVec.twoPow 5 f.code

/-- Strip and zone kind codes (R199). -/
def Kind.code : Kind → Nat
  | .thin => 0 | .thick => 1 | .ecc => 2 | .gap => 3 | .crop => 4

/-- The set of one kind. -/
def Kind.mask (k : Kind) : BitVec 5 := BitVec.twoPow 5 k.code

/-- Control codes (R199). -/
def Control.code : Control → Nat
  | .judgeExtreme => 0 | .acceptWeak => 1 | .gapsAreDefects => 2 | .noisyIsGap => 3

/-- Right codes (R199). -/
def Right.code : Right → Nat
  | .view => 0 | .measure => 1 | .judge => 2 | .hold => 3 | .retire => 4 | .setup => 5

/-- A history flag is set. -/
def hasHistory (h : BitVec 10) (f : HistoryFlag) : Bool := h.getLsbD f.code

/-- A limit set's control is on. -/
def LimitSet.on (l : LimitSet) (c : Control) : Bool := l.controls.getLsbD c.code

/-- A rights set holds a right. -/
def hasRight (rights : BitVec 6) (r : Right) : Bool := rights.getLsbD r.code

/-- The members of a set when a condition holds, none otherwise. -/
def maskIf {w : Nat} (b : Bool) (m : BitVec w) : BitVec w := if b then m else 0

/-! ## Saturating counters -/

/-- A 16-bit counter raised by `n`, stopping at 65,535 (R7, R51, R182). -/
def countBy (n c : Nat) : Nat := min Config.counterTop (c + n)

/-- A 16-bit counter raised by one, stopping at 65,535. -/
def countUp (c : Nat) : Nat := countBy 1 c

/-- An 8-bit count raised by one, stopping at 255 (R83, R184). -/
def countUp8 (c : Nat) : Nat := min 255 (c + 1)

/-! ## Places in counter and notice tables -/

/-- The place of a head counter in the counter table (3.5). -/
def HeadCounter.idx : HeadCounter → Fin 14
  | .good => 0 | .weak => 1 | .noEcho => 2 | .saturated => 3 | .window => 4 | .unplaced => 5 | .orphan => 6
  | .beyond => 7 | .late => 8 | .pool => 9 | .corrupt => 10 | .missed => 11 | .overrun => 12 | .stray => 13

/-- The place of a ring counter in the ring counter table (R182). -/
def RingCounter.idx : RingCounter → Fin 8
  | .check => 0 | .format => 1 | .long => 2 | .aborts => 3 | .shed => 4 | .turnCut => 5 | .ignoredBroadcast => 6
  | .denied => 7

/-- The place of a notice kind: its priority less one (R188, R199). -/
def NoticeKind.idx : NoticeKind → Fin 11
  | .poolExhausted => 0 | .stall => 1 | .shellVoid => 2 | .headSilent => 3 | .headOverrun => 4 | .spinLost => 5
  | .evicted => 6 | .unrecorded => 7 | .requestsShed => 8 | .shellComplete => 9 | .rejudgeDone => 10

end Sys2Proof.Machine
end

