-- ==== Sys2Proof/Machine/LineCode.lean ====
section
/-! DEFINITION. Octet and bit order, the frame check, bit stuffing, the bit receiver of the ring, and the checks of a closed frame (R158 to R162, R198, R199). -/

namespace Sys2Proof.Machine

/-! ## Octets and bits -/

/-- The `n` octets of a field, least significant octet first (R199). -/
def le : Nat → Nat → List Byte
  | 0, _ => []
  | n + 1, v => BitVec.ofNat 8 v :: le n (v / 256)

/-- A signed field of `n` octets in two's complement (R199). -/
def leInt (n : Nat) (z : Int) : List Byte :=
  le n (z % (2 ^ (8 * n) : Nat)).toNat

/-- The value of octets sent least significant octet first (R199). -/
def leValue : List Byte → Nat
  | [] => 0
  | b :: bs => b.toNat + 256 * leValue bs

/-- A field of `w` bits from its octets. -/
def leField (w : Nat) (octets : List Byte) : BitVec w :=
  BitVec.ofNat w (leValue octets)

/-- Fields packed from bit 0 upward, each `(width, value)` (R205 to R207). -/
def pack : List (Nat × Nat) → Nat
  | [] => 0
  | (w, v) :: rest => v % 2 ^ w + 2 ^ w * pack rest

/-- An octet's bits, least significant first (4.4). -/
def octetBits (b : Byte) : List Bool :=
  [b.getLsbD 0, b.getLsbD 1, b.getLsbD 2, b.getLsbD 3, b.getLsbD 4, b.getLsbD 5, b.getLsbD 6, b.getLsbD 7]

/-- The bits of octets in the order sent (R158). -/
def bitsOf (octets : List Byte) : List Bool :=
  octets.flatMap octetBits

/-- The octet whose bits are the given ones, least significant first. -/
def octetOfBits (b0 b1 b2 b3 b4 b5 b6 b7 : Bool) : Byte :=
  BitVec.ofBoolListLE [b0, b1, b2, b3, b4, b5, b6, b7]

/-- The octets of a content whose length is a multiple of 8; bits that make no whole octet are left out. -/
def octetsOf : List Bool → List Byte
  | b0 :: b1 :: b2 :: b3 :: b4 :: b5 :: b6 :: b7 :: rest => octetOfBits b0 b1 b2 b3 b4 b5 b6 b7 :: octetsOf rest
  | _ => []

/-! ## The check -/

/-- One bit of the division by x^16 + x^15 + x^2 + 1 (R161). -/
def checkBit (r : BitVec 16) (b : Bool) : BitVec 16 :=
  let shifted := r <<< 1
  if b != r.msb then shifted ^^^ 0x8005#16 else shifted

/-- The check of the content bits before the check field (R161). -/
def checkOf (bits : List Bool) : BitVec 16 :=
  bits.foldl checkBit (BitVec.allOnes 16)

/-- A frame's octets with its check, low octet first (R161). -/
def withCheck (octets : List Byte) : List Byte :=
  octets ++ le 2 (checkOf (bitsOf octets)).toNat

/-! ## Sending -/

/-- The line bits of a content: after every fourth consecutive 1 a 0 is inserted; `ones` counts the 1s already sent (R158). -/
def stuff : Nat → List Bool → List Bool
  | _, [] => []
  | ones, true :: rest => if ones = 3 then true :: false :: stuff 0 rest else true :: stuff (ones + 1) rest
  | _, false :: rest => false :: stuff 0 rest

/-- A delimiter (8.2). -/
def delimiter : List Bool := [false, true, true, true, true, true, false]

/-- The bits the part drives for a frame whose opening delimiter has already gone as far as its five 1s: the delimiter's trailing 0, the stuffed content and the closing delimiter (R158, R179). -/
def frameAfterOnes (octets : List Byte) : List Bool :=
  false :: (stuff 0 (bitsOf octets) ++ delimiter)

/-- The bits of a frame that follows another in a turn: the trailing 0 of the first's closing delimiter is the leading 0 of this one's opening delimiter (R158). -/
def frameAfterFrame (octets : List Byte) : List Bool :=
  [true, true, true, true, true] ++ frameAfterOnes octets

/-- The release that ends a turn (R180). -/
def releaseBits : List Bool := List.replicate 6 true

/-- What replaces the unsent bits of a reply at a cut (R181). -/
def cutBits : List Bool := List.replicate 8 true

/-! ## Receiving -/

/-- What one received bit brings about (R159, R162, R175, R179). -/
inductive RxEvent where
  /-- A delimiter in HUNT or OPENED. -/
  | delimiter
  /-- A delimiter that closes a frame with the given content. -/
  | closed (content : List Bool)
  /-- The sixth 1 of a run inside a frame. -/
  | abort
  /-- The 257th content octet. -/
  | long
  /-- The sixth 1 of a run that began with the first bit after a delimiter. -/
  | release
  /-- The twelfth 1 of a run. -/
  | idle
  deriving DecidableEq, Repr

/-- The receiver right after a delimiter: OPENED, with nothing gathered (R159). -/
def Receiver.atDelimiter : Receiver :=
  { state := .opened, ones := 0, afterZero := true, fresh := false, zeroKept := false, content := [] }

/-- The receiver in HUNT with its content discarded; its count of 1s runs on (R159). -/
def Receiver.hunting (r : Receiver) : Receiver :=
  { r with state := .hunt, content := [] }

/-- A received 1 (R159). -/
def Receiver.one (r : Receiver) : Receiver × Option RxEvent :=
  let r1 : Receiver :=
    if r.state = .opened then { r with state := .inFrame, fresh := true, content := [], ones := 1 }
    else { r with ones := if r.ones < 12 then r.ones + 1 else 12 }
  if r1.ones = 6 ∧ r1.state = .inFrame then
    (r1.hunting, some (if r1.fresh then .release else .abort))
  else if r1.ones = 12 ∧ r.ones < 12 then (r1, some .idle)
  else (r1, none)

/-- Content gathered at a 0 that ends a run of fewer than five 1s in a frame: the 1s, and the 0 unless it is a stuffing bit (R159). -/
def Receiver.gathered (r : Receiver) : List Bool :=
  r.content ++ List.replicate r.ones true ++ (if r.ones < 4 then [false] else [])

/-- A received 0 (R159). Bits of a run become content when the 0 that ends it is received, and LONG is taken then (R162; log entry 11). -/
def Receiver.zero (r : Receiver) : Receiver × Option RxEvent :=
  let after : Receiver := { r with ones := 0, afterZero := true, fresh := false }
  match r.state with
  | .hunt => if r.ones = 5 ∧ r.afterZero then (.atDelimiter, some .delimiter) else (after, none)
  | .opened => ({ after with state := .inFrame, content := [false], zeroKept := true }, none)
  | .inFrame =>
    if r.ones = 5 then
      (.atDelimiter, some (.closed (if r.zeroKept then r.content.dropLast else r.content)))
    else if Config.longFrameBits ≤ r.gathered.length then (after.hunting, some .long)
    else ({ after with content := r.gathered, zeroKept := decide (r.ones < 4) }, none)

/-- One bit on RING IN (R159). -/
def Receiver.bit (r : Receiver) (b : Bool) : Receiver × Option RxEvent :=
  if b then r.one else r.zero

/-- Bits on RING IN in turn, with the events they bring about. -/
def Receiver.feed (r : Receiver) : List Bool → Receiver × List RxEvent
  | [] => (r, [])
  | b :: bs =>
    let (r1, ev) := r.bit b
    let (r2, evs) := r1.feed bs
    (r2, ev.toList ++ evs)

/-! ## The checks of a closed frame -/

/-- The result of checks 1 to 4 of R162 on a closed frame. -/
inductive FrameCheck where
  | ignored
  | discarded (c : RingCounter)
  | passed (octets : List Byte)
  deriving DecidableEq, Repr

/-- Kind octets (R198). -/
def kindRequest : Byte := 0x01
def kindReply : Byte := 0x02
def kindPoll : Byte := 0x03

/-- Check 4 of R162 on the octets of a frame whose length and check passed: the kind, the length and the source. -/
def kindPasses : List Byte → Bool
  | _ :: source :: kind :: rest =>
    if kind = kindPoll then decide (rest.length = 2 ∧ source ≠ 0)
    else if kind = kindRequest then decide (4 ≤ rest.length ∧ source ≠ 0)
    else decide (kind = kindReply)
  | _ => false

/-- Checks 1 to 4 of R162, in order. -/
def frameCheck (content : List Bool) : FrameCheck :=
  if content.length < 40 then .ignored
  else if content.length % 8 ≠ 0 then .discarded .format
  else
    let octets := octetsOf content
    let before := octets.take (octets.length - 2)
    if octets ≠ withCheck before then .discarded .check
    else if kindPasses octets then .passed octets
    else .discarded .format

end Sys2Proof.Machine
end

