-- ==== Sys2Proof/Machine/Ops.lean ====
section
/-! DEFINITION. The shared operations: reading and writing the parts of the state, counting, raising a notice, freeing a record, eviction, slot and strip allocation, the lines that follow the state, and the receipt, admission and answering of a request. -/

namespace Sys2Proof.Machine

/-! ## Reading and writing the parts of the state -/

/-- The record in a slot. -/
def State.slot (s : State) (i : Fin Config.slots) : Record := s.slots[i]

/-- Replaces the record in a slot. -/
def State.setSlot (s : State) (i : Fin Config.slots) (r : Record) : State := { s with slots := s.slots.set i r }

/-- Changes the record in a slot. -/
def State.modSlot (s : State) (i : Fin Config.slots) (f : Record → Record) : State := s.setSlot i (f (s.slot i))

/-- A head port. -/
def State.head (s : State) (h : Fin Config.heads) : HeadPort := s.heads[h]

/-- Replaces a head port. -/
def State.setHead (s : State) (h : Fin Config.heads) (p : HeadPort) : State := { s with heads := s.heads.set h p }

/-- A material entry. -/
def State.material (s : State) (g : Fin Config.materials) : Material := s.materials[g]

/-- Replaces a material entry. -/
def State.setMaterial (s : State) (g : Fin Config.materials) (m : Material) : State :=
  { s with materials := s.materials.set g m }

/-- A limit set. -/
def State.limit (s : State) (l : Fin Config.limitSets) : LimitSet := s.limits[l]

/-- Replaces a limit set. -/
def State.setLimit (s : State) (l : Fin Config.limitSets) (v : LimitSet) : State := { s with limits := s.limits.set l v }

/-- Replaces the tracker. -/
def State.setTracker (s : State) (t : Tracker) : State := { s with tracker := t }

/-- Replaces the ring port. -/
def State.setRing (s : State) (r : RingPort) : State := { s with ring := r }

/-- Replaces the notice unit. -/
def State.setNotices (s : State) (n : NoticeUnit) : State := { s with notices := n }

/-- The slots in ascending order. -/
def slotOrder : List (Fin Config.slots) := List.finRange _

/-- A record is live: its state is not FREE. -/
def Record.live (r : Record) : Bool := decide (r.state ≠ .free)

/-- A record is COMPLETE or VOID. -/
def Record.finished (r : Record) : Bool := decide (r.state = .complete ∨ r.state = .void)

/-- A record is MEASURING or FINISHING. -/
def Record.underWay (r : Record) : Bool := decide (r.state = .measuring ∨ r.state = .finishing)

/-- Sets a history flag (R5). -/
def Record.flag (r : Record) (f : HistoryFlag) : Record := { r with history := r.history ||| f.mask }

/-! ## Lines that follow the state -/

/-- The attention line: asserted exactly when a pending kind is enabled (R186). -/
def NoticeUnit.settle (n : NoticeUnit) : NoticeUnit :=
  { n with attention := (List.finRange 11).any fun k => n.entries[k].pending && n.mask.getLsbD k }

/-- A port is enabled: IDLE, RUNNING or SILENT (R53). -/
def HeadPort.enabled (p : HeadPort) : Bool := decide (p.state ≠ .disabled)

/-- The ready line (R53). -/
def HeadPort.settle (p : HeadPort) : HeadPort :=
  { p with ready := p.enabled && (match p.settings.mode with
      | .hold => decide (p.queue.length < p.settings.depth)
      | .drop => true) }

/-- The stall timer runs while a context or a blind passage is open (R45). -/
def Tracker.settle (t : Tracker) : Tracker :=
  { t with stallTimer := if t.contexts ≠ [] ∨ t.blind then .running else .stopped }

/-- The ring states in which the external relay carries the ring past the part: BYPASS is asserted and RING OUT not driven (R174). -/
def RingState.bypassed (st : RingState) : Bool := decide (st = .offRing ∨ st = .joining)

/-- Enters a ring state; the BYPASS and RING OUT lines follow (R174, R180). -/
def RingPort.enter (r : RingPort) (st : RingState) : RingPort :=
  { r with state := st, bypass := st.bypassed, ringOut := if st.bypassed then none else r.ringOut }

/-! ## Counting -/

/-- Counts `n` in a head counter (3.5). -/
def HeadPort.count (p : HeadPort) (c : HeadCounter) (n : Nat := 1) : HeadPort :=
  { p with counters := p.counters.set c.idx (countBy n p.counters[c.idx]) }

/-- Counts one against a head (3.5). -/
def State.countHead (s : State) (h : Fin Config.heads) (c : HeadCounter) : State := s.setHead h ((s.head h).count c)

/-- Counts one in a ring counter (R182). -/
def RingPort.count (r : RingPort) (c : RingCounter) : RingPort :=
  { r with counters := r.counters.set c.idx (countUp r.counters[c.idx]) }

/-- Counts one in a ring counter (R182). -/
def State.countRing (s : State) (c : RingCounter) : State := s.setRing (s.ring.count c)

/-! ## Notices -/

/-- A pending entry after a raise (R184). -/
def NoticeEntry.raised (e : NoticeEntry) (subject : Subject) : NoticeEntry :=
  { pending := true, count := if e.pending then countUp8 e.count else 1, subject }

/-- Raises a notice kind with a subject; the attention line follows (R184, R186). -/
def State.raise (s : State) (k : NoticeKind) (subject : Subject) : State :=
  s.setNotices { s.notices with entries := s.notices.entries.set k.idx (s.notices.entries[k.idx].raised subject) }.settle

/-- The subject of a notice about a record: its shell id, or its slot and generation when the id is absent (R185). -/
def State.subjectOf (s : State) (i : Fin Config.slots) : Subject :=
  match (s.slot i).shellId with
  | some id => .shell id
  | none => .slot i (s.slot i).generation

/-! ## Reference counts -/

/-- Raises a material entry's reference count by one (R69). -/
def State.refUp (s : State) (g : Fin Config.materials) : State :=
  s.setMaterial g { s.material g with refs := (s.material g).refs + 1 }

/-- Lowers a material entry's reference count by one (R69). -/
def State.refDown (s : State) (g : Fin Config.materials) : State :=
  s.setMaterial g { s.material g with refs := (s.material g).refs - 1 }

/-! ## Tracking contexts -/

/-- The context bound to a slot is ended, with nothing opened in its place. -/
def Tracker.endContext (t : Tracker) (i : Fin Config.slots) : Tracker :=
  { t with contexts := t.contexts.filter fun c => decide (c.slot ≠ i) }.settle

/-- A MEASURING context is bound to the slot. -/
def Tracker.measures (t : Tracker) (i : Fin Config.slots) : Bool :=
  t.contexts.any fun c => decide (c.slot = i ∧ c.role = .measuring)

/-- The context bound to a slot is ended by a freeing; a MEASURING context is replaced by a blind passage (R40). -/
def Tracker.dropContext (t : Tracker) (i : Fin Config.slots) : Tracker :=
  { t with blind := t.blind || t.measures i }.endContext i

/-! ## Freeing and eviction -/

/-- Frees the record in a slot (R154): it leaves both lists, its context and its rejudge run end, its strips return, its material reference is dropped, its fields take the values of R2, and the generation advances (R1). -/
def State.freeRecord (s : State) (i : Fin Config.slots) : State :=
  let r := s.slot i
  let s1 : State :=
    { s with
      armQueue := s.armQueue.filter fun j => decide (j ≠ i)
      completion := s.completion.filter fun j => decide (j ≠ i)
      tracker := s.tracker.dropContext i
      engine := s.engine.filter fun run => decide (run.slot ≠ i)
      freeStrips := s.freeStrips + r.strips.length }
  (s1.refDown r.shell.grade).setSlot i (Record.free (r.generation + 1))

/-- A record on the completion order list is eligible for eviction when REJUDGING is clear and its claim list is empty (R12). -/
def State.evictable (s : State) (i : Fin Config.slots) : Bool :=
  !(s.slot i).rejudging && (s.slot i).claims.isEmpty

/-- Evicts the oldest eligible record, if there is one, and raises EVICTED (R12, R156). -/
def State.evict (s : State) : Option State :=
  match s.completion.find? s.evictable with
  | none => none
  | some i => some ((s.freeRecord i).raise .evicted (s.subjectOf i))

/-- The lowest FREE slot (R11). -/
def State.lowestFree (s : State) : Option (Fin Config.slots) :=
  slotOrder.find? fun i => decide ((s.slot i).state = .free)

/-- Allocates a slot, evicting at most one record when none is FREE and eviction is enabled (R11). -/
def State.allocSlot (s : State) : Option (Fin Config.slots × State) :=
  match s.lowestFree with
  | some i => some (i, s)
  | none =>
    if s.eviction then
      match s.evict with
      | some s1 => s1.lowestFree.map fun i => (i, s1)
      | none => none
    else none

/-- Evicts records until a strip is free or no record is eligible (R87); the first argument bounds the evictions by the length of the completion order list. -/
def State.evictForStrip : Nat → State → State
  | 0, s => s
  | n + 1, s =>
    if s.freeStrips = 0 then
      match s.evict with
      | some s1 => State.evictForStrip n s1
      | none => s
    else s

/-- The state in which an allocation finds or does not find a free strip, after the evictions it may make (R86, R87). -/
def State.seekStrip (s : State) : State :=
  if s.eviction then State.evictForStrip s.completion.length s else s

/-- A newly allocated strip: OPEN, no outcome kinds, eccentricity absent, twelve EMPTY cells (R92, R93). -/
def newStrip : Strip := {}

/-- Appends a free strip to a record's strip list, OPEN and with the values of R92 and R93 (R86). -/
def State.takeStrip (s : State) (i : Fin Config.slots) : State :=
  { s with freeStrips := s.freeStrips - 1 }.modSlot i fun r => { r with strips := r.strips ++ [newStrip] }

/-- Allocates `n` strips for a record, one at a time; at the first failure the rest are not asked for. The Bool says whether every allocation succeeded (R66, R86, R16 step 2). -/
def State.allocStrips : Nat → Fin Config.slots → State → State × Bool
  | 0, _, s => (s, true)
  | n + 1, i, s =>
    if s.seekStrip.freeStrips = 0 then (s.seekStrip, false)
    else State.allocStrips n i (s.seekStrip.takeStrip i)

/-- What a failed strip allocation leaves on a record: POOL_SHORT, and POOL_EXHAUSTED raised if it was clear before (R16, R66). -/
def State.poolShort (s : State) (i : Fin Config.slots) : State :=
  let s1 := s.modSlot i fun r => r.flag .poolShort
  if hasHistory (s.slot i).history .poolShort then s1 else s1.raise .poolExhausted (s.subjectOf i)

/-! ## Requests and replies -/

/-- The part's address: the programmed part × 4 + the strap value (R164). -/
def RingPort.address (r : RingPort) : Byte := BitVec.ofNat 8 (r.part.toNat * 4 + r.strap.toNat)

/-- A row of the request table: the code, and the right it needs; none for the commands of address 1 only (R202). -/
structure RequestRow where
  code : Byte
  need : Option Right
  deriving DecidableEq, Repr

/-- What a command gives its reply: outcome, body, and the effect the reply holds (R171, R172). -/
structure Answer where
  outcome : ReplyCode
  body : List Byte
  effect : ReplyEffect := .none
  deriving DecidableEq, Repr

/-- A DONE reply with a body. -/
def Answer.done (body : List Byte) : Answer := { outcome := .done, body }

/-- A refusal by the owning block: the field octet, then the values the command's rule says its reply carries (R204). -/
def Answer.refuse (o : ReplyCode) (field : Nat := 0) (body : List Byte := []) : Answer :=
  { outcome := o, body := BitVec.ofNat 8 field :: body }

/-- The code of JOIN RING, which R170 and R173 treat apart. -/
def joinCode : Byte := 0x52

/-- The code of RESTART, which R166 treats apart. -/
def restartCode : Byte := 0x65

/-- A source holds the right a command needs (R168). -/
def RingPort.permits (r : RingPort) (source : Byte) (need : Option Right) : Bool :=
  decide (source = 1) || (match need with
    | none => false
    | some right => r.stations.toList.any fun e => match e with
      | some st => decide (st.address = source) && hasRight st.rights right
      | none => false)

/-- A built reply joins the tail of the reply queue; none is built while the queue is full (R171, R173). -/
def State.enqueue (s : State) (h : Header) (code : Byte) (a : Answer) : State :=
  if s.ring.replies.length < Config.replyPlaces then
    s.setRing { s.ring with replies := s.ring.replies ++
      [{ dest := h.source, source := s.ring.address, code, tag := h.tag, outcome := a.outcome, body := a.body,
         effect := a.effect }] }
  else s

/-- A shed request (R173). -/
def State.shedRequest (s : State) : State := (s.countRing .shed).raise .requestsShed .none

/-- Admission of a request for the part (R170, R168). `fits` is check 2; the command is carried out only when every check passes, and its reply is built in the same event (R171). -/
def State.admitted (s : State) (h : Header) (row : RequestRow) (fits : Bool) (run : State → State × Answer) : State :=
  if Config.replyPlaces ≤ s.ring.replies.length ∧ row.code ≠ joinCode then s.shedRequest
  else if !fits then s.enqueue h row.code { outcome := .malformed, body := [] }
  else if !s.ring.permits h.source row.need then
    (s.countRing .denied).enqueue h row.code { outcome := .denied, body := [] }
  else (run s).1.enqueue h row.code (run s).2

/-- A turn in progress is cut by a delimiter, before the release or a cut has begun (R181). -/
def RingPort.cut (r : RingPort) : RingPort :=
  if r.state = .active ∧ r.phase = .sending then
    { r with permit := false, phase := .cutting, toDrive := cutBits }.count .turnCut
  else r

/-- A delimiter received on RING IN (R159, R181). -/
def State.delimiterIn (s : State) : State := s.setRing { s.ring.cut with rx := .atDelimiter }

/-- The ring port after a turn, in the given ring state, with nothing left to drive or to repeat (log entry 16). -/
def RingPort.leaveActive (r : RingPort) (st : RingState) : RingPort :=
  { r.enter st with phase := .none, sentInTurn := 0, leaveMarked := false, toDrive := [], held := none }

/-- The sixth 1 of the part's release has been driven: the part leaves ACTIVE (R180). The permit was cleared at the end of the turn, before the release. -/
def RingPort.turnEnd (r : RingPort) : RingPort :=
  if r.state = .active ∧ r.phase = .releasing then r.leaveActive (if r.leaveMarked then .offRing else .onRing) else r

/-- The eighth 1 of a cut has been driven (R181). -/
def RingPort.cutEnd (r : RingPort) : RingPort :=
  if r.state = .active ∧ r.phase = .cutting then r.leaveActive .onRing else r

/-- The ring port at the close of a whole frame: its opening delimiter cut a reply being sent, and a release or a cut has been driven whole before its closing delimiter, so that the part has left ACTIVE (R180, R181, R191; log entry 3). -/
def RingPort.frame (r : RingPort) : RingPort := { r.cut.turnEnd.cutEnd with rx := .atDelimiter }

/-- A whole frame, from its opening to its closing delimiter, has been received on RING IN (R162, R191). -/
def State.frameIn (s : State) : State := s.setRing s.ring.frame

/-- A closed REQUEST frame: source 0 is a FORMAT fault (R162), destination 0 a broadcast (R166), another destination is ignored, and a request for the part is admitted (R163, R170). -/
def State.request (s : State) (h : Header) (row : RequestRow) (fits : Bool) (run : State → State × Answer) : State :=
  let s1 := s.frameIn
  if h.source = 0 then s1.countRing .format
  else if h.dest = 0 then
    if row.code = restartCode ∧ h.source = 1 ∧ fits then s1.admitted h row fits run
    else s1.countRing .ignoredBroadcast
  else if h.dest = s1.ring.address then s1.admitted h row fits run
  else s1

/-- The meaning of a request command: it always leads to a next state. -/
def answering (h : Header) (row : RequestRow) (run : State → State × Answer) (s : State) :
    Host.Outcome State Fault Refusal :=
  .next (s.request h row true run)

/-- A command that changes nothing but may answer by the state (4.7). -/
def reading (answer : State → Answer) (s : State) : State × Answer := (s, answer s)

end Sys2Proof.Machine
end

