-- ==== Sys2Proof/Machine/Operands.lean ====
section
/-! DEFINITION. The operand forms of requests: record references, ranges and codes of carried values, and the request table. -/

namespace Sys2Proof.Machine

/-! ## The request table (R202) -/

def rowArm : RequestRow := ⟨0x10, some .measure⟩
def rowDisarm : RequestRow := ⟨0x11, some .measure⟩
def rowLookup : RequestRow := ⟨0x12, some .view⟩
def rowFind : RequestRow := ⟨0x13, some .view⟩
def rowAmend : RequestRow := ⟨0x14, some .measure⟩
def rowTemplateWrite : RequestRow := ⟨0x15, some .setup⟩
def rowTemplateRead : RequestRow := ⟨0x16, some .setup⟩
def rowTrackerSet : RequestRow := ⟨0x20, some .setup⟩
def rowHeadSet : RequestRow := ⟨0x28, some .setup⟩
def rowHeadEnable : RequestRow := ⟨0x29, some .setup⟩
def rowHeadDisable : RequestRow := ⟨0x2A, some .setup⟩
def rowHeadRead : RequestRow := ⟨0x2B, some .view⟩
def rowMaterialWrite : RequestRow := ⟨0x30, some .setup⟩
def rowMaterialClear : RequestRow := ⟨0x31, some .setup⟩
def rowMaterialRead : RequestRow := ⟨0x32, some .view⟩
def rowPoolStatus : RequestRow := ⟨0x38, some .view⟩
def rowPoolSet : RequestRow := ⟨0x39, some .setup⟩
def rowReadStrips : RequestRow := ⟨0x3A, some .view⟩
def rowLimitWrite : RequestRow := ⟨0x40, some .judge⟩
def rowLimitRead : RequestRow := ⟨0x41, some .view⟩
def rowReadZones : RequestRow := ⟨0x42, some .view⟩
def rowRejudge : RequestRow := ⟨0x43, some .judge⟩
def rowClaim : RequestRow := ⟨0x48, some .hold⟩
def rowRelease : RequestRow := ⟨0x49, some .hold⟩
def rowRetire : RequestRow := ⟨0x4A, some .retire⟩
def rowSetAddress : RequestRow := ⟨0x50, some .setup⟩
def rowStationsWrite : RequestRow := ⟨0x51, none⟩
def rowJoinRing : RequestRow := ⟨joinCode, some .setup⟩
def rowLeaveRing : RequestRow := ⟨0x53, some .setup⟩
def rowNoticeMask : RequestRow := ⟨0x60, some .setup⟩
def rowFetchNotice : RequestRow := ⟨0x61, some .view⟩
def rowPartStatus : RequestRow := ⟨0x62, some .view⟩
def rowCountersRead : RequestRow := ⟨0x63, some .view⟩
def rowCountersClear : RequestRow := ⟨0x64, some .setup⟩
def rowRestart : RequestRow := ⟨restartCode, none⟩

/-! ## Record references -/

/-- A live record other than one in `except` holds the shell id (R4). -/
def State.idHeld (s : State) (id : Word) (besides : Option (Fin Config.slots)) : Bool :=
  slotOrder.any fun i => decide (some i ≠ besides) && (s.slot i).live && decide ((s.slot i).shellId = some id)

/-- Resolves a record reference (R8, R200): the slot it names, or the outcome of the refusal. -/
def State.resolve (s : State) (ref : RecordRef) : Except ReplyCode (Fin Config.slots) :=
  if ref.form = 0 then
    match slotOrder.find? fun i => (s.slot i).live && decide ((s.slot i).shellId = some ref.octets) with
    | some i => .ok i
    | none => .error .notFound
  else if ref.form = 1 ∨ ref.form = 2 then
    if h : (ref.octets.extractLsb' 0 8).toNat < Config.slots then
      let i : Fin Config.slots := ⟨(ref.octets.extractLsb' 0 8).toNat, h⟩
      if (s.slot i).state = .free then .error .notFound
      else if ref.form = 2 ∧ ref.octets.extractLsb' 8 8 ≠ (s.slot i).generation then .error .notFound
      else .ok i
    else .error .range
  else .error .range

/-- A command on one record: the reference is resolved before any other field is examined (R8). -/
def withRecord (ref : RecordRef) (run : Fin Config.slots → State → State × Answer) (s : State) : State × Answer :=
  match s.resolve ref with
  | .ok i => run i s
  | .error o => (s, .refuse o)

/-! ## Carried values -/

/-- A hand code (R199). -/
def handOf (b : Byte) : Option Hand :=
  if b = 0 then some .forward else if b = 1 then some .counter else none

/-- A report form code (R199). -/
def formOf (b : Byte) : Option ReportForm :=
  if b = 0 then some .basic else if b = 1 then some .full else none

/-- A full-queue mode code (R199). -/
def modeOf (b : Byte) : Option QueueMode :=
  if b = 0 then some .hold else if b = 1 then some .drop else none

/-- A value lies in a range. -/
def within (lo hi v : Nat) : Bool := decide (lo ≤ v ∧ v ≤ hi)

/-- The number of the first field whose check fails, counted from `from` in the order given. -/
def firstBad : Nat → List Bool → Option Nat
  | _, [] => none
  | n, ok :: rest => if ok then firstBad (n + 1) rest else some n

/-- The range checks of the seven shell fields, in order (R19 check 1, R25). -/
def ShellFields.checks (f : ShellFields) : List Bool :=
  [within 0 31 f.grade.toNat, within 0 3 f.limitSet.toNat, (handOf f.hand).isSome, within 10 200 f.pitch.toNat,
   within 2000 100000 f.nominal.toNat, within 0 63 f.leadCrop.toNat, within 0 63 f.tailCrop.toNat]

/-- The settings the seven fields give once their checks have passed. -/
def ShellFields.settings (f : ShellFields) : ShellSettings :=
  { grade := Fin.ofNat _ f.grade.toNat, limitSet := Fin.ofNat _ f.limitSet.toNat,
    hand := (handOf f.hand).getD .forward, pitch := f.pitch.toNat, nominal := f.nominal.toNat,
    leadCrop := f.leadCrop.toNat, tailCrop := f.tailCrop.toNat }

/-- The seven shell settings as octets (R202, TEMPLATE READ). -/
def ShellSettings.octets (t : ShellSettings) : List Byte :=
  le 1 t.grade ++ le 1 t.limitSet ++ le 1 t.hand.code ++ le 2 t.pitch ++ le 4 t.nominal ++ le 1 t.leadCrop ++
    le 1 t.tailCrop

/-- The range checks of the seven tracker settings, in order (R47, 2.8). -/
def TrackerFields.checks (f : TrackerFields) : List Bool :=
  [within 100 20000 f.advanceScale.toNat, within 200 5000 f.headPlane.toNat, within 0 500 f.closeDistance.toNat,
   within 100 10000 f.stallTime.toNat, within 64 4096 f.spinPulses.toNat, within 50 5000 f.spinTimeout.toNat,
   within 1 50 f.debounce.toNat]

/-- The settings the seven values give. -/
def TrackerFields.settings (f : TrackerFields) : TrackerSettings :=
  { advanceScale := f.advanceScale.toNat, headPlane := f.headPlane.toNat, closeDistance := f.closeDistance.toNat,
    stallTime := f.stallTime.toNat, spinPulses := f.spinPulses.toNat, spinTimeout := f.spinTimeout.toNat,
    debounce := f.debounce.toNat }

/-- The seven tracker settings as octets (R202). -/
def TrackerSettings.octets (t : TrackerSettings) : List Byte :=
  le 2 t.advanceScale ++ le 2 t.headPlane ++ le 2 t.closeDistance ++ le 2 t.stallTime ++ le 2 t.spinPulses ++
    le 2 t.spinTimeout ++ le 1 t.debounce

/-- The checks of the six head settings, in order (R56, 3.5). -/
def HeadFields.checks (f : HeadFields) : List Bool :=
  [within 0 4095 f.angle.toNat, decide (-200 ≤ f.offset.toInt ∧ f.offset.toInt ≤ 200), (formOf f.form).isSome,
   decide (f.depth = 1 ∨ f.depth = 8), (modeOf f.mode).isSome, within 1 250 f.silence.toNat]

/-- The settings the six values give. -/
def HeadFields.settings (f : HeadFields) : HeadSettings :=
  { angle := f.angle.toNat, offset := f.offset.toInt, form := (formOf f.form).getD .basic, depth := f.depth.toNat,
    mode := (modeOf f.mode).getD .hold, silence := f.silence.toNat }

/-- The six head settings as octets (R202). -/
def HeadSettings.octets (t : HeadSettings) : List Byte :=
  le 2 t.angle ++ leInt 2 t.offset ++ le 1 t.form.code ++ le 1 t.depth ++ le 1 t.mode.code ++ le 1 t.silence

/-- The checks of the eight material fields, in order (R71). -/
def MaterialValues.checks (f : MaterialValues) : List Bool :=
  [true, within 4000 7000 f.v0.toNat, within 0 200 f.k.toNat, within 0 1400 f.tmin.toNat,
   within f.tmin.toNat 1400 f.tref.toNat, within f.tref.toNat 1400 f.tmax.toNat, within 0 254 f.echoFloor.toNat,
   within f.echoFloor.toNat 254 f.weak.toNat]

/-- The fields the eight values give. -/
def MaterialValues.fields (f : MaterialValues) : MaterialFields :=
  { gradeCode := f.gradeCode.toNat, v0 := f.v0.toNat, k := f.k.toNat, tmin := f.tmin.toNat, tref := f.tref.toNat,
    tmax := f.tmax.toNat, echoFloor := f.echoFloor.toNat, weak := f.weak.toNat }

/-- An optional value passes when it is not selected or lies in its range. -/
def withinIf {w : Nat} (lo hi : Nat) (v : Option (BitVec w)) : Bool :=
  match v with
  | none => true
  | some x => within lo hi x.toNat

/-- The checks of a LIMIT WRITE's values, in field-table order (R114 check 3, 6.1). -/
def LimitFields.checks (f : LimitFields) : List Bool :=
  [withinIf 0 500 f.lower, withinIf 0 500 f.upper, withinIf 0 500 f.ecc, withinIf 0 15 f.settle,
   withinIf 3 12 f.eccCells, withinIf 0 7 f.guard, withinIf 0 20000 f.minGood]

/-- A selected value, or the value held. -/
def orHeld {w : Nat} (held : Nat) (v : Option (BitVec w)) : Nat :=
  match v with
  | none => held
  | some x => x.toNat

/-- A limit set after the selected values and masks of a LIMIT WRITE (R114). -/
def LimitSet.written (l : LimitSet) (f : LimitFields) : LimitSet :=
  { lower := orHeld l.lower f.lower, upper := orHeld l.upper f.upper, eccLimit := orHeld l.eccLimit f.ecc,
    settle := orHeld l.settle f.settle, eccCells := orHeld l.eccCells f.eccCells, guard := orHeld l.guard f.guard,
    minGood := orHeld l.minGood f.minGood,
    controls := (l.controls &&& f.keep.setWidth 4) ||| f.put.setWidth 4 }

/-- A limit set as octets (R204). -/
def LimitSet.octets (l : LimitSet) : List Byte :=
  le 2 l.lower ++ le 2 l.upper ++ le 2 l.eccLimit ++ le 1 l.settle ++ le 1 l.eccCells ++ le 1 l.guard ++
    le 2 l.minGood ++ le 1 l.controls.toNat

/-- The head port that a head number names, 1 to 6. -/
def headOf (b : Byte) : Option (Fin Config.heads) :=
  if h : 1 ≤ b.toNat ∧ b.toNat ≤ Config.heads then some ⟨b.toNat - 1, by have := h.1; have := h.2; omega⟩ else none

/-- The material entry that an entry number names. -/
def entryOf (b : Byte) : Option (Fin Config.materials) :=
  if h : b.toNat < Config.materials then some ⟨b.toNat, h⟩ else none

/-- The limit set that a set number names. -/
def limitOf (b : Byte) : Option (Fin Config.limitSets) :=
  if h : b.toNat < Config.limitSets then some ⟨b.toNat, h⟩ else none

/-- The retirement options (R146); `unknown` is a code that names none of them. -/
inductive RetireOption where
  | now | deferred | force | unknown
  deriving DecidableEq, Repr

/-- An optional value as octets: 0s when it is absent (R200). -/
def optionalOctets (n : Nat) (v : Option Nat) : List Byte := le n (v.getD 0)

/-- A claim list as a count octet and its four places (R201). -/
def claimOctets (claims : List Byte) : List Byte :=
  le 1 claims.length ++ (claims ++ List.replicate (Config.claimPlaces - claims.length) 0)

end Sys2Proof.Machine
end

