-- ==== Sys2Proof/Machine/Judgement.lean ====
section
/-! DEFINITION. The judgement unit (chapter 6): limits and cell outcomes, strip outcomes, zones, trimming and verdicts; LIMIT WRITE, LIMIT READ, READ ZONES, REJUDGE and the rejudge engine's steps. -/

namespace Sys2Proof.Machine

/-! ## Limits and cell outcomes -/

/-- The lower limit of a nominal wall (R117). -/
def LimitSet.lowerLimit (l : LimitSet) (nominal : Nat) : Nat := nominal - nominal * l.lower / 1000

/-- The upper limit of a nominal wall (R117). -/
def LimitSet.upperLimit (l : LimitSet) (nominal : Nat) : Nat := nominal + nominal * l.upper / 1000

/-- The mean of a cell: sum ÷ accepted count, truncated; 0 when no shot was accepted (5.3, R109). -/
def Cell.mean (c : Cell) : Nat := c.sum / c.accepted

/-- The outcome of a cell judged in MEAN or EXTREME mode (R118, R119). -/
def LimitSet.judgeCell (l : LimitSet) (nominal : Nat) (c : Cell) : CellOutcome :=
  if l.on .judgeExtreme then
    if c.min < l.lowerLimit nominal then
      if l.upperLimit nominal < c.max then .thinThick else .thin
    else if l.upperLimit nominal < c.max then .thick else .pass
  else if c.mean < l.lowerLimit nominal then .thin
  else if l.upperLimit nominal < c.mean then .thick
  else .pass

/-- Gives a cell its outcome: SETTLED cells are judged, every other cell has none (R120). -/
def LimitSet.giveOutcome (l : LimitSet) (nominal : Nat) (c : Cell) : Cell :=
  { c with outcome := if c.state = .settled then l.judgeCell nominal c else .none }

/-- Changes every cell of a strip in place. -/
def Strip.mapCells (st : Strip) (f : Cell → Cell) : Strip :=
  { st with cells := Vector.ofFn fun k => f st.cells[k] }

/-! ## Strip outcomes -/

/-- Some cell of the strip has the property. -/
def Strip.anyCell (st : Strip) (p : Cell → Bool) : Bool := st.cells.toList.any p

/-- A cell makes its strip THIN (R122). -/
def Cell.isThin (c : Cell) : Bool := decide (c.outcome = .thin ∨ c.outcome = .thinThick)

/-- A cell makes its strip THICK (R122). -/
def Cell.isThick (c : Cell) : Bool := decide (c.outcome = .thick ∨ c.outcome = .thinThick)

/-- A cell is GAP or SPARSE (R124). -/
def Cell.isGap (c : Cell) : Bool := decide (c.state = .gap ∨ c.state = .sparse)

/-- The kind ECC: a present eccentricity above a limit above 0 (R123). -/
def LimitSet.eccentric (l : LimitSet) (ecc : Option Nat) : Bool :=
  match ecc with
  | some e => decide (0 < l.eccLimit ∧ l.eccLimit < e)
  | none => false

/-- The kind GAP (R124). -/
def LimitSet.gapped (l : LimitSet) (st : Strip) : Bool :=
  l.on .gapsAreDefects && (st.anyCell Cell.isGap || (l.on .noisyIsGap && st.anyCell Cell.noisy))

/-- The kinds of a judged strip (R122 to R124). -/
def LimitSet.judgedKinds (l : LimitSet) (st : Strip) : BitVec 5 :=
  maskIf (st.anyCell Cell.isThin) Kind.thin.mask ||| maskIf (st.anyCell Cell.isThick) Kind.thick.mask |||
    maskIf (l.eccentric st.ecc) Kind.ecc.mask ||| maskIf (l.gapped st) Kind.gap.mask

/-- The derived flags that a judged strip sets: those of its kinds, and NOISY (R126). The codes of THIN, THICK, ECC and GAP are those of THIN, THICK, ECCENTRIC and GAP (R199). -/
def Strip.derivedFlags (st : Strip) : BitVec 5 :=
  (st.kinds &&& 0x0F#5) ||| maskIf (st.anyCell Cell.noisy) DerivedFlag.noisy.mask

/-- The worst deviation of a strip for its zone candidate: greatest magnitude among cells with accepted shots, the lowest sector on a tie, 0 without any (R125). -/
def Strip.worst (st : Strip) : Int :=
  st.cells.toList.foldl (fun w c => if 0 < c.accepted ∧ w.natAbs < c.worst.natAbs then c.worst else w) 0

/-! ## Zones -/

/-- The zone candidate of a judged strip at a station (R128). -/
def LimitSet.candidate (l : LimitSet) (leadCrop station : Nat) (st : Strip) : Zone :=
  { first := max (station - l.guard) leadCrop, last := min (station + l.guard) Config.lastStation,
    kinds := st.kinds.setWidth 4, worst := st.worst }

/-- A zone with a candidate merged into it: the lesser first station, the greater last, both kinds, the worst deviation of greater magnitude (R129). -/
def Zone.merge (z c : Zone) : Zone :=
  { first := min z.first c.first, last := max z.last c.last, kinds := z.kinds ||| c.kinds,
    worst := if z.worst.natAbs < c.worst.natAbs then c.worst else z.worst }

/-- A zone with the zone after it merged into it: the later zone takes the candidate's part, and the one zone keeps the earlier zone's first station (R129; log entry 7). -/
def Zone.takeIn (z later : Zone) : Zone := { z.merge later with first := z.first }

/-- A widened zone taken behind the zones before it, the nearest first: while it starts at most one station past the zone before it, the two are merged (R129). The result is in the same reversed order. -/
def absorb : List Zone → Zone → List Zone
  | [], z => [z]
  | p :: before, z => if z.first ≤ p.last + 1 then absorb before (p.takeIn z) else z :: p :: before

/-- A candidate taken into a zone list, and whether it was merged for want of a place (R129, R130). -/
def takeCandidate (zones : List Zone) (c : Zone) : List Zone × Bool :=
  match zones.reverse with
  | [] => ([c], false)
  | z :: before =>
    if c.first ≤ z.last + 1 then ((absorb before (z.merge c)).reverse, false)
    else if Config.maxZones ≤ zones.length then ((absorb before (z.merge c)).reverse, true)
    else (zones ++ [c], false)

/-- Offers a zone candidate to the record's zone list; ZONES_MERGED records a merge for want of a place (R129, R130). -/
def Record.offer (r : Record) (c : Zone) : Record :=
  let taken := takeCandidate r.zones c
  let r1 := { r with zones := taken.1 }
  if taken.2 then r1.flag .zonesMerged else r1

/-- Judges the strip at a station, whose cells have their outcomes: crop, kinds, derived flags and zone candidate, in this order (R121 to R130). -/
def Record.judgeStrip (r : Record) (l : LimitSet) (station : Nat) (st : Strip) : Record :=
  if station < r.shell.leadCrop then
    { r with strips := r.strips.set station { st with kinds := Kind.crop.mask } }
  else
    let st1 := { st with kinds := l.judgedKinds st }
    let r1 := { r with strips := r.strips.set station st1, derived := r.derived ||| st1.derivedFlags }
    if st1.kinds = 0 then r1 else r1.offer (l.candidate r.shell.leadCrop station st1)

/-! ## Trimming and verdicts -/

/-- The trimming bound N − 1 − tail crop (R131). -/
def Record.trimBound (r : Record) : Int := (r.strips.length : Int) - 1 - (r.shell.tailCrop : Int)

/-- The zone list trimmed against the bound (R131). -/
def Record.trimmedZones (r : Record) : List Zone :=
  (r.zones.filter fun z => decide ((z.first : Int) ≤ r.trimBound)).map fun z =>
    { z with last := min z.last r.trimBound.toNat }

/-- The number of judged stations N − lead crop − tail crop (R132). -/
def Record.judgedStations (r : Record) : Int :=
  (r.strips.length : Int) - (r.shell.leadCrop : Int) - (r.shell.tailCrop : Int)

/-- The station belongs to a zone of the list. -/
def inZones (zones : List Zone) (station : Nat) : Bool :=
  zones.any fun z => decide (z.first ≤ station ∧ station ≤ z.last)

/-- The longest run of stations in no zone among `n` stations from `station`; `run` is the run that ends before it and `best` the longest so far (R132). -/
def longestSound (zones : List Zone) : Nat → Nat → Nat → Nat → Nat
  | 0, _, _, best => best
  | n + 1, station, run, best =>
    if inZones zones station then longestSound zones n (station + 1) 0 best
    else longestSound zones n (station + 1) (run + 1) (max best (run + 1))

/-- The longest sound run of a record (R132). -/
def Record.soundRun (r : Record) : Nat := longestSound r.zones r.judgedStations.toNat r.shell.leadCrop 0 0

/-- The verdict of a record whose zone list has been trimmed, for a set in use (R132). -/
def Record.verdictBy (r : Record) (l : LimitSet) : Verdict :=
  if r.judgedStations < 1 then .reject
  else if r.zones = [] then .accept
  else if 1 ≤ r.soundRun ∧ l.minGood ≤ r.soundRun * r.shell.pitch then .cut
  else .reject

/-- Trims the zone list and gives the verdict; TOO_SHORT is set when no judged station remains (R131, R132). -/
def Record.giveVerdict (r : Record) (l : LimitSet) : Record :=
  let r1 := { r with zones := r.trimmedZones }
  let r2 := { r1 with verdict := r1.verdictBy l }
  if r.judgedStations < 1 then r2.flag .tooShort else r2

/-! ## LIMIT WRITE, LIMIT READ and READ ZONES -/

/-- The first mask of a LIMIT WRITE that names anything but the four controls, by its field number (R114 check 2, R204). -/
def LimitFields.badMask (f : LimitFields) : Option Nat :=
  if f.keep.toNat ≥ 16 then some 8 else if f.put.toNat ≥ 16 then some 9 else none

/-- LIMIT WRITE at the judgement unit (R114). -/
def limitWrite (set : Byte) (f : LimitFields) (s : State) : State × Answer :=
  match limitOf set with
  | none => (s, .refuse .range)
  | some l =>
    match (LimitFields.badMask f).orElse fun _ => firstBad 1 (LimitFields.checks f) with
    | some field => (s, .refuse .range field (s.limit l).octets)
    | none => (s.setLimit l ((s.limit l).written f), .done ((s.limit l).written f).octets)

/-- LIMIT WRITE (R114). -/
def execLimitWrite (h : Header) (set : Byte) (f : LimitFields) : State → Host.Outcome State Fault Refusal :=
  answering h rowLimitWrite (limitWrite set f)

/-- LIMIT READ (R116). -/
def limitRead (set : Byte) (s : State) : Answer :=
  match limitOf set with
  | none => .refuse .range
  | some l => .done (s.limit l).octets

/-- LIMIT READ (R116). -/
def execLimitRead (h : Header) (set : Byte) : State → Host.Outcome State Fault Refusal :=
  answering h rowLimitRead (reading (limitRead set))

/-- A zone as octets (R204). -/
def Zone.octets (z : Zone) : List Byte := le 2 z.first ++ le 2 z.last ++ le 1 z.kinds.toNat ++ leInt 4 z.worst

/-- The READ ZONES reply of a record (R134). -/
def readZones (i : Fin Config.slots) (s : State) : Answer :=
  let r := s.slot i
  if r.rejudging then .refuse .busy
  else .done (le 1 i ++ [r.generation] ++ le 1 r.state.code ++ le 1 r.verdict.code ++ le 1 r.zones.length ++
    r.zones.flatMap Zone.octets)

/-- READ ZONES (R134). -/
def execReadZones (h : Header) (ref : RecordRef) : State → Host.Outcome State Fault Refusal :=
  answering h rowReadZones (withRecord ref fun i => reading (readZones i))

/-! ## The rejudge engine -/

/-- The end of a rejudge run (R138). -/
def State.endRejudge (s : State) (run : RejudgeRun) : State :=
  let judged := s.modSlot run.slot fun r =>
    { (if r.state = .complete then r.giveVerdict run.copy else r) with rejudging := false }
  ({ judged with engine := none }).raise .rejudgeDone (s.subjectOf run.slot)

/-- A REJUDGE that passes its checks: the engine holds the record and a copy of the limit set, and the derived flags and zones are cleared; a record without strips ends its run at once (R136, R138). -/
def State.startRejudge (s : State) (i : Fin Config.slots) : State :=
  let run : RejudgeRun := { slot := i, copy := s.limit (s.slot i).shell.limitSet, reached := 0 }
  let started := { s with engine := some run }.modSlot i fun r => { r with rejudging := true, derived := 0, zones := [] }
  if (s.slot i).strips = [] then started.endRejudge run else started

/-- REJUDGE at the judgement unit (R136). -/
def rejudge (i : Fin Config.slots) (s : State) : State × Answer :=
  if !(s.slot i).finished then (s, .refuse .state)
  else if (s.slot i).retirePending then (s, .refuse .state)
  else if s.engine.isSome then (s, .refuse .busy)
  else (s.startRejudge i, { outcome := .started, body := [] })

/-- REJUDGE (R136). -/
def execRejudge (h : Header) (ref : RecordRef) : State → Host.Outcome State Fault Refusal :=
  answering h rowRejudge (withRecord ref rejudge)

/-- The strip step of a run: the strip at the station reached is judged against the copy (R137). -/
def Record.rejudgeStrip (r : Record) (copy : LimitSet) (station : Nat) : Record :=
  match r.strips[station]? with
  | some st => r.judgeStrip copy station (st.mapCells (copy.giveOutcome r.shell.nominal))
  | none => r

/-- One step of the rejudge engine: a strip step, or the end of the run once every strip is walked (R137, R138; log entry 8). An IDLE engine takes no step (log entry 4). -/
def State.rejudgeStep (s : State) : State :=
  match s.engine with
  | none => s
  | some run =>
    if run.reached < (s.slot run.slot).strips.length then
      { s with engine := some { run with reached := run.reached + 1 } }.modSlot run.slot fun r =>
        r.rejudgeStrip run.copy run.reached
    else s.endRejudge run

/-- REJUDGE_STEP (R137, R138). -/
def execRejudgeStep (s : State) : Host.Outcome State Fault Refusal := .next s.rejudgeStep

end Sys2Proof.Machine
end

