-- ==== Sys2Proof/Machine/Strips.lean ====
section
/-! DEFINITION. Strips and cells (chapter 5): the cell update, the strip close, READ STRIPS with its two forms (R205 to R207), POOL STATUS and POOL SET. -/

namespace Sys2Proof.Machine

/-! ## The cell update -/

/-- The need a cell loads when it opens: the settle count, 0 taken as 15 (R95). -/
def LimitSet.need (l : LimitSet) : Nat := if l.settle = 0 then 15 else l.settle

/-- An EMPTY cell opens at its first accepted shot (R95). -/
def Cell.openBy (c : Cell) (l : LimitSet) : Cell :=
  if c.state = .empty then { c with state := .opened, need := l.need } else c

/-- An accepted shot is counted: count and sum while the count is below 255 (R96). -/
def Cell.counted (c : Cell) (thickness : Nat) : Cell :=
  if c.accepted < 255 then { c with accepted := c.accepted + 1, sum := c.sum + thickness } else c

/-- The extremes and the worst deviation after an accepted shot, the first of the cell or a later one (R97). -/
def Cell.extremes (c : Cell) (nominal thickness : Nat) (first : Bool) : Cell :=
  let deviation : Int := (thickness : Int) - (nominal : Int)
  if first then { c with min := thickness, max := thickness, worst := deviation }
  else { c with min := Nat.min c.min thickness, max := Nat.max c.max thickness,
                worst := if c.worst.natAbs < deviation.natAbs then deviation else c.worst }

/-- The need falls and the cell settles when it reaches 0; a SETTLED cell's outcome is computed again (R98, R99). -/
def Cell.settleBy (c : Cell) (l : LimitSet) (nominal : Nat) : Cell :=
  match c.state with
  | .opened =>
    if c.need ≤ 1 then l.giveOutcome nominal { c with need := 0, state := .settled } else { c with need := c.need - 1 }
  | .settled => l.giveOutcome nominal c
  | _ => c

/-- The update of a cell by an accepted shot (R95 to R99). -/
def Cell.accept (c : Cell) (l : LimitSet) (nominal thickness : Nat) : Cell :=
  (((c.openBy l).counted thickness).extremes nominal thickness (decide (c.state = .empty))).settleBy l nominal

/-- A rejected shot raises the cell's rejected count alone (R83). -/
def Cell.reject (c : Cell) : Cell := { c with rejected := countUp8 c.rejected }

/-- Changes one cell of one strip of a record. -/
def Record.modCell (r : Record) (station : Nat) (sector : Fin Config.sectors) (f : Cell → Cell) : Record :=
  match r.strips[station]? with
  | some st => { r with strips := r.strips.set station { st with cells := st.cells.set sector (f st.cells[sector]) } }
  | none => r

/-- An accepted shot counts in its cell and in its record (R84, R96). -/
def Record.acceptShot (r : Record) (l : LimitSet) (station : Nat) (sector : Fin Config.sectors) (thickness : Nat) :
    Record :=
  { r.modCell station sector (fun c => c.accept l r.shell.nominal thickness) with accepted := countUp r.accepted }

/-- A rejected shot counts in its cell and in its record (R83). -/
def Record.rejectShot (r : Record) (station : Nat) (sector : Fin Config.sectors) : Record :=
  { r.modCell station sector Cell.reject with rejected := countUp r.rejected }

/-! ## The strip close -/

/-- A cell at the close: EMPTY becomes GAP, OPEN becomes SPARSE (R101), the noisy mark is set (R102), and SETTLED cells receive their final outcomes (R103). -/
def Cell.close (c : Cell) (l : LimitSet) (nominal : Nat) : Cell :=
  l.giveOutcome nominal
    { c with
      state := match c.state with
        | .empty => .gap
        | .opened => .sparse
        | st => st
      noisy := decide (c.accepted < c.rejected) }

/-- The means of the SETTLED cells of a strip (R104). -/
def Strip.settledMeans (st : Strip) : List Nat :=
  (st.cells.toList.filter fun c => decide (c.state = .settled)).map Cell.mean

/-- The eccentricity from the greatest and least mean (R104). -/
def eccentricity (greatest least : Nat) : Nat := (greatest - least) * 1000 / (greatest + least)

/-- The eccentricity computed at the close: absent with fewer SETTLED cells than the ecc cells count (R104). -/
def Strip.eccAtClose (st : Strip) (l : LimitSet) : Option Nat :=
  match st.settledMeans with
  | [] => none
  | m :: ms =>
    if l.eccCells ≤ ms.length + 1 then some (eccentricity (ms.foldl max m) (ms.foldl min m)) else none

/-- A strip after R101 to R104 and the move to CLOSED (R100). -/
def Strip.close (st : Strip) (l : LimitSet) (nominal : Nat) : Strip :=
  let closed := st.mapCells fun c => c.close l nominal
  { closed with state := .closed, ecc := closed.eccAtClose l }

/-- Closes and judges the strip at a station when it is OPEN (R100, R105). -/
def Record.closeStrip (r : Record) (l : LimitSet) (station : Nat) : Record :=
  match r.strips[station]? with
  | some st => if st.state = .opened then r.judgeStrip l station (st.close l r.shell.nominal) else r
  | none => r

/-- Closes the OPEN strips whose station satisfies a condition, in ascending station order (R44, R92, R100). -/
def Record.closeStrips (r : Record) (l : LimitSet) (p : Nat → Bool) : Record :=
  (List.range r.strips.length).foldl (fun r1 k => if p k then r1.closeStrip l k else r1) r

/-! ## READ STRIPS -/

/-- The strip header (R205). -/
def Strip.header (st : Strip) (station : Nat) : List Byte :=
  le 2 (pack [(10, station), (1, st.state.code), (5, st.kinds.toNat)]) ++
    le 2 (pack [(9, st.ecc.getD 0), (6, 0), (1, flagCode st.ecc.isSome)])

/-- A cell in the SUMMARY form (R206, R109). -/
def Cell.summary (c : Cell) : List Byte := le 3 (pack [(18, c.mean), (3, c.state.code)])

/-- The worst deviation selector (R207): 0 when the worst deviation is that of the min, 1 when it is that of the max alone. -/
def Cell.selector (c : Cell) (nominal : Nat) : Nat :=
  flagCode (decide (c.accepted ≠ 0 ∧ c.worst ≠ (c.min : Int) - (nominal : Int)))

/-- A thickness relative to the base, 0 in a cell without an accepted shot (R207). -/
def Cell.relative (c : Cell) (nominal v : Nat) : Nat := if c.accepted = 0 then 0 else v - nominal / 2

/-- A cell in the FULL form, 76 bits (R207). -/
def Cell.full (c : Cell) (nominal : Nat) : Nat :=
  pack [(3, cellCode c.state c.outcome), (4, c.need), (1, flagCode c.noisy), (1, c.selector nominal), (8, c.accepted),
    (8, c.rejected), (17, c.relative nominal c.min), (17, c.relative nominal c.max), (17, c.relative nominal c.mean)]

/-- A strip in the SUMMARY form, 40 octets (R206). -/
def Strip.summary (st : Strip) (station : Nat) : List Byte := st.header station ++ st.cells.toList.flatMap Cell.summary

/-- A strip in the FULL form, 118 octets (R207). -/
def Strip.full (st : Strip) (nominal station : Nat) : List Byte :=
  st.header station ++ le 114 (pack (st.cells.toList.map fun c => (76, c.full nominal)))

/-- Strips of a list in either form, with their stations from the first on. -/
def stripsOctets (each : Strip → Nat → List Byte) : Nat → List Strip → List Byte
  | _, [] => []
  | station, st :: rest => each st station ++ stripsOctets each (station + 1) rest

/-- The greatest count a form takes (R106 check 4). -/
def stripsPerReply (form : Byte) : Nat := if form = 0 then 6 else 2

/-- READ STRIPS after its reference has resolved (R106 to R110). -/
def readStrips (form : Byte) (first : Half) (count : Byte) (i : Fin Config.slots) (s : State) : Answer :=
  let r := s.slot i
  if r.rejudging then .refuse .busy
  else if form.toNat > 1 then .refuse .range 1
  else if !within 1 (stripsPerReply form) count.toNat then .refuse .range 3
  else if r.strips.length ≤ first.toNat then .refuse .range 2
  else
    let run := (r.strips.drop first.toNat).take count.toNat
    let lead := le 1 i ++ [r.generation, form] ++ le 1 run.length
    if form = 0 then .done (lead ++ stripsOctets Strip.summary first.toNat run)
    else .done (lead ++ le 4 r.shell.nominal ++ stripsOctets (fun st k => st.full r.shell.nominal k) first.toNat run)

/-- READ STRIPS (R106 to R111). -/
def execReadStrips (h : Header) (ref : RecordRef) (form : Byte) (first : Half) (count : Byte) :
    State → Host.Outcome State Fault Refusal :=
  answering h rowReadStrips (withRecord ref fun i => reading (readStrips form first count i))

/-! ## The pool -/

/-- POOL STATUS's reply (R89). -/
def poolStatus (s : State) : Answer := .done (le 2 s.freeStrips ++ le 1 (flagCode s.eviction))

/-- POOL STATUS (R89). -/
def execPoolStatus (h : Header) : State → Host.Outcome State Fault Refusal :=
  answering h rowPoolStatus (reading poolStatus)

/-- POOL SET at the strip pool (R90). -/
def poolSet (setting : Byte) (s : State) : State × Answer :=
  if setting.toNat > 1 then (s, .refuse .range 1 (le 1 (flagCode s.eviction)))
  else ({ s with eviction := decide (setting = 1) }, .done (le 1 (flagCode (decide (setting = 1)))))

/-- POOL SET (R90). -/
def execPoolSet (h : Header) (setting : Byte) : State → Host.Outcome State Fault Refusal :=
  answering h rowPoolSet (poolSet setting)

end Sys2Proof.Machine
end

