-- ==== Sys2Proof/Machine/Records.lean ====
section
/-! DEFINITION. The shell table's commands (1.7, 1.8): ARM, DISARM, LOOKUP, FIND, AMEND, TEMPLATE WRITE and TEMPLATE READ. -/

namespace Sys2Proof.Machine

/-! ## ARM and DISARM -/

/-- A record made in a slot: the carried or template settings, every other field at the value of a new record (R13, R14, R19). The slot's generation stays (R1). -/
def Record.made (generation : Byte) (state : LifeState) (shell : ShellSettings) (id : Option Word)
    (history : BitVec 10) : Record :=
  { Record.free generation with state, shell, shellId := id, history }

/-- The material entry is DEFINED (R68). -/
def State.defined (s : State) (g : Fin Config.materials) : Bool := (s.material g).fields.isSome

/-- Places an ARMED record in an allocated slot, at the tail of the arming queue, and counts its material reference (R19, R9, R69). -/
def State.placeArmed (s : State) (i : Fin Config.slots) (id : Word) (shell : ShellSettings) : State :=
  ({ s with armQueue := s.armQueue ++ [i] }.modSlot i fun r =>
    .made r.generation .armed shell (some id) 0).refUp shell.grade

/-- ARM at the shell table (R19). -/
def arm (id : Word) (f : ShellFields) (s : State) : State × Answer :=
  match firstBad 2 (ShellFields.checks f) with
  | some field => (s, .refuse .range field)
  | none =>
    let shell := ShellFields.settings f
    if !s.defined shell.grade then (s, .refuse .noGrade)
    else if s.idHeld id none then (s, .refuse .duplicate)
    else if Config.armingPlaces ≤ s.armQueue.length then (s, .refuse .queueFull)
    else match s.allocSlot with
      | none => (s, .refuse .full)
      | some (i, s1) => (s1.placeArmed i id shell, .done (le 1 i ++ [(s1.slot i).generation]))

/-- ARM (R19). -/
def execArm (h : Header) (id : Word) (f : ShellFields) : State → Host.Outcome State Fault Refusal :=
  answering h rowArm (arm id f)

/-- DISARM at the shell table (R20). -/
def disarm (i : Fin Config.slots) (s : State) : State × Answer :=
  if (s.slot i).state = .armed then (s.freeRecord i, .done []) else (s, .refuse .state)

/-- DISARM (R20). -/
def execDisarm (h : Header) (ref : RecordRef) : State → Host.Outcome State Fault Refusal :=
  answering h rowDisarm (withRecord ref disarm)

/-! ## LOOKUP -/

/-- The sub-flags octet: REJUDGING bit 0, RETIRE_PENDING bit 1 (R199). -/
def Record.subFlags (r : Record) : Nat := pack [(1, flagCode r.rejudging), (1, flagCode r.retirePending)]

/-- The presence octet of the record header: shell id, length, last temperature (R200). -/
def Record.presence (r : Record) : Nat :=
  pack [(1, flagCode r.shellId.isSome), (1, flagCode r.length.isSome), (1, flagCode r.lastTemp.isSome)]

/-- The record header of LOOKUP (R21, R204). -/
def Record.header (r : Record) (i : Fin Config.slots) : List Byte :=
  le 1 i ++ [r.generation] ++ le 1 r.state.code ++ le 1 r.subFlags ++ le 1 r.presence ++
    optionalOctets 4 (r.shellId.map BitVec.toNat) ++ r.shell.octets ++ optionalOctets 4 r.length ++
    optionalOctets 2 r.lastTemp ++ claimOctets r.claims ++ le 1 r.verdict.code ++ le 2 r.history.toNat ++
    le 1 r.derived.toNat ++ le 2 r.accepted ++ le 2 r.rejected ++ le 2 r.late ++ le 2 r.strips.length ++
    le 1 r.zones.length

/-- LOOKUP at the shell table (R21). -/
def lookup (i : Fin Config.slots) (s : State) : Answer := .done ((s.slot i).header i)

/-- LOOKUP (R21). -/
def execLookup (h : Header) (ref : RecordRef) : State → Host.Outcome State Fault Refusal :=
  answering h rowLookup (withRecord ref fun i => reading (lookup i))

/-! ## FIND -/

/-- A record's flags as FIND's flags set carries them: history bits 0 to 9, derived bits 10 to 14, REJUDGING 15, RETIRE_PENDING 16 (R202). -/
def Record.flagSet (r : Record) : BitVec 24 :=
  BitVec.ofNat 24 (pack [(10, r.history.toNat), (5, r.derived.toNat), (2, r.subFlags)])

/-- A record meets the three criteria of FIND; an empty set admits every record (R22). -/
def Record.meets (r : Record) (states verdicts : Byte) (flags : BitVec 24) : Bool :=
  r.live && (decide (states = 0) || states.getLsbD r.state.code) &&
    (decide (verdicts = 0) || verdicts.getLsbD r.verdict.code) &&
    (decide (flags = 0) || decide (flags &&& r.flagSet ≠ 0))

/-- The first criterion that names a value outside its members: ARMED to VOID are bits 1 to 5, NONE to INCOMPLETE bits 0 to 4, the flags bits 0 to 16 (R22, R199). -/
def findFault (states verdicts : Byte) (flags : BitVec 24) : Option Nat :=
  firstBad 1 [decide (states &&& ~~~0x3E#8 = 0), decide (verdicts &&& ~~~0x1F#8 = 0),
    decide (flags &&& ~~~0x01FFFF#24 = 0)]

/-- FIND at the shell table (R22). -/
def find (states verdicts : Byte) (flags : BitVec 24) (s : State) : Answer :=
  match findFault states verdicts flags with
  | some field => .refuse .range field
  | none =>
    let found := slotOrder.filter fun i => (s.slot i).meets states verdicts flags
    .done (le 1 found.length ++ found.flatMap fun (i : Fin Config.slots) =>
      le 1 i ++ le 1 (flagCode (s.slot i).shellId.isSome) ++ optionalOctets 4 ((s.slot i).shellId.map BitVec.toNat))

/-- FIND (R22). -/
def execFind (h : Header) (states verdicts : Byte) (flags : BitVec 24) : State → Host.Outcome State Fault Refusal :=
  answering h rowFind (reading (find states verdicts flags))

/-! ## AMEND -/

/-- The check of a selected field; an unselected field passes. -/
def ifSelected {α : Type} (field : Nat) (v : Option α) (check : α → Option ReplyCode) : Option (Nat × ReplyCode) :=
  match v with
  | none => none
  | some x => (check x).map fun o => (field, o)

/-- A value in or out of its range. -/
def rangeIf (ok : Bool) : Option ReplyCode := if ok then none else some .range

/-- A field restricted to ARMED records, and its further check (R24). -/
def armedOnly (st : LifeState) (further : Option ReplyCode) : Option ReplyCode :=
  if st = .armed then further else some .state

/-- The check of AMEND's grade entry in an ARMED record (R24). -/
def State.gradeCheck (s : State) (g : Byte) : Option ReplyCode :=
  match entryOf g with
  | none => some .range
  | some e => if s.defined e then none else some .noGrade

/-- The history flags that AMEND may clear: all but UNNAMED (R24). -/
def clearable : BitVec 16 := 0x01FF

/-- The first selected field of AMEND that fails, in field-list order, with its outcome (R23, R24). -/
def State.amendFault (s : State) (i : Fin Config.slots) (f : AmendFields) : Option (Nat × ReplyCode) :=
  let st := (s.slot i).state
  [ifSelected 1 f.shellId fun v => if s.idHeld v (some i) then some .duplicate else none,
   ifSelected 2 f.limitSet fun v => rangeIf (within 0 3 v.toNat),
   ifSelected 3 f.tailCrop fun v => rangeIf (within 0 63 v.toNat),
   ifSelected 4 f.grade fun v => armedOnly st (s.gradeCheck v),
   ifSelected 5 f.hand fun v => armedOnly st (rangeIf (handOf v).isSome),
   ifSelected 6 f.pitch fun v => armedOnly st (rangeIf (within 10 200 v.toNat)),
   ifSelected 7 f.nominal fun v => armedOnly st (rangeIf (within 2000 100000 v.toNat)),
   ifSelected 8 f.leadCrop fun v => armedOnly st (rangeIf (within 0 63 v.toNat)),
   ifSelected 9 f.clearHistory fun v => rangeIf (decide (v &&& ~~~clearable = 0))].findSome? id

/-- The grade entry a record names after an AMEND. -/
def AmendFields.newGrade (f : AmendFields) (held : Fin Config.materials) : Fin Config.materials :=
  match f.grade with
  | none => held
  | some g => Fin.ofNat _ g.toNat

/-- The settings of a record after an AMEND's selected fields (R24). -/
def AmendFields.settings (f : AmendFields) (t : ShellSettings) : ShellSettings :=
  { grade := AmendFields.newGrade f t.grade
    limitSet := match f.limitSet with
      | none => t.limitSet
      | some v => Fin.ofNat _ v.toNat
    hand := match f.hand with
      | none => t.hand
      | some v => (handOf v).getD t.hand
    pitch := orHeld t.pitch f.pitch
    nominal := orHeld t.nominal f.nominal
    leadCrop := orHeld t.leadCrop f.leadCrop
    tailCrop := orHeld t.tailCrop f.tailCrop }

/-- The record takes the shell id; a record that gets a new id loses UNNAMED (R24). -/
def Record.named (r : Record) (id : Option Word) : Record :=
  match id with
  | none => r
  | some v =>
    if r.shellId = some v then r
    else { r with shellId := some v, history := r.history &&& ~~~HistoryFlag.unnamed.mask }

/-- The history flags of a clear-history mask are cleared (R24). -/
def Record.clearHistory (r : Record) (mask : Option Half) : Record :=
  match mask with
  | none => r
  | some m => { r with history := r.history &&& ~~~(m.setWidth 10) }

/-- A record with the selected fields changed (R24). -/
def Record.amended (r : Record) (f : AmendFields) : Record :=
  { (r.named f.shellId).clearHistory f.clearHistory with shell := AmendFields.settings f r.shell }

/-- The reference counts after a change of grade entry: the old lowered, the new raised; an unchanged value moves no count (R24, R69). -/
def State.moveRef (s : State) (old new : Fin Config.materials) : State :=
  if old = new then s else (s.refDown old).refUp new

/-- AMEND at the shell table (R23). -/
def amend (f : AmendFields) (i : Fin Config.slots) (s : State) : State × Answer :=
  if (s.slot i).retirePending then (s, .refuse .state)
  else if (s.slot i).rejudging then (s, .refuse .busy)
  else match s.amendFault i f with
    | some (field, o) => (s, .refuse o field)
    | none =>
      ((s.moveRef (s.slot i).shell.grade (AmendFields.newGrade f (s.slot i).shell.grade)).modSlot i
        fun r => r.amended f, .done [])

/-- AMEND (R23, R24). -/
def execAmend (h : Header) (ref : RecordRef) (f : AmendFields) : State → Host.Outcome State Fault Refusal :=
  answering h rowAmend (withRecord ref (amend f))

/-! ## The template -/

/-- TEMPLATE WRITE at the shell table (R25). -/
def templateWrite (f : ShellFields) (s : State) : State × Answer :=
  match firstBad 1 (ShellFields.checks f) with
  | some field => (s, .refuse .range field)
  | none => ({ s with template := ShellFields.settings f }, .done [])

/-- TEMPLATE WRITE (R25). -/
def execTemplateWrite (h : Header) (f : ShellFields) : State → Host.Outcome State Fault Refusal :=
  answering h rowTemplateWrite (templateWrite f)

/-- TEMPLATE READ at the shell table (R26). -/
def templateRead (s : State) : Answer := .done s.template.octets

/-- TEMPLATE READ (R26). -/
def execTemplateRead (h : Header) : State → Host.Outcome State Fault Refusal :=
  answering h rowTemplateRead (reading templateRead)

end Sys2Proof.Machine
end

