-- ==== Sys2Proof/Machine/Tracking.lean ====
section
/-! DEFINITION. The shell tracker (chapter 2): the entry detector, the advance and spin counts, the tracking contexts, stamping, closing and completion, stall, and TRACKER SET. -/

namespace Sys2Proof.Machine

/-! ## Positions -/

/-- The distance in mm from a stored advance count to the present one (R32). -/
def Tracker.distance (t : Tracker) (stored : Word) : Nat := (t.advance - stored).toNat * 1000 / t.settings.advanceScale

/-- The head distance of a head with the given axial offset for a context (R33). -/
def Tracker.headDistance (t : Tracker) (c : Context) (offset : Int) : Int :=
  (t.distance c.front : Int) - (t.settings.headPlane : Int) - offset

/-- The largest offset among the six heads: that of the rearmost head (R34). -/
def State.rearmostOffset (s : State) : Int :=
  (List.finRange Config.heads).foldl (fun m h => max m (s.head h).settings.offset) (s.head 0).settings.offset

/-- The head distance of the rearmost head for a context (R33, R34). -/
def State.rearDistance (s : State) (c : Context) : Int := s.tracker.headDistance c s.rearmostOffset

/-! ## Stamping -/

/-- The spin angle in turn units (R35). -/
def Tracker.angle (t : Tracker) : Nat :=
  t.spinCount.toNat * Config.revolution / t.settings.spinPulses % Config.revolution

/-- The sector of a head's angle at a spin angle, for either hand (R43). -/
def sectorOf (hand : Hand) (theta a : Nat) : Fin Config.sectors :=
  Fin.ofNat _ (match hand with
    | .forward => (theta + a) % Config.revolution * Config.sectors / Config.revolution
    | .counter => (((theta : Int) - (a : Int)) % (Config.revolution : Int)).toNat * Config.sectors / Config.revolution)

/-- The head's position falls on the shell of the context: up to the length for a FINISHING context, without bound for a MEASURING one (R41). -/
def State.covers (s : State) (h : Fin Config.heads) (c : Context) : Bool :=
  let d := s.tracker.headDistance c (s.head h).settings.offset
  match c.role with
  | .finishing => decide (0 ≤ d ∧ d < ((s.slot c.slot).length.getD 0 : Int))
  | .measuring => decide (0 ≤ d)

/-- The context that takes a report from a head: the FINISHING contexts are tried first, the older first, then the MEASURING one (R41). -/
def State.attributed (s : State) (h : Fin Config.heads) : Option Context :=
  ((s.tracker.contexts.filter fun c => decide (c.role = .finishing)) ++
    (s.tracker.contexts.filter fun c => decide (c.role = .measuring))).find? (s.covers h)

/-- The stamp of a report that a port accepts now (R41 to R43). -/
def State.stamp (s : State) (h : Fin Config.heads) : Stamp :=
  if s.tracker.spin = .unsynced then .unplaced
  else match s.attributed h with
    | none => .unplaced
    | some c =>
      let shell := (s.slot c.slot).shell
      let p := s.head h
      .placed c.slot c.generation
        (min Config.maxStations ((s.tracker.headDistance c p.settings.offset).toNat / shell.pitch))
        s.tracker.angle (sectorOf shell.hand p.settings.angle s.tracker.angle)

/-! ## Completion -/

/-- The station count that a length needs (R16 step 1). -/
def Record.stationsNeeded (r : Record) : Nat := (r.length.getD 0 + r.shell.pitch - 1) / r.shell.pitch

/-- Step 1 of a completion: TRUNCATED for a length that needs more than 1,024 stations (R16). -/
def Record.truncateAt (r : Record) : Record :=
  if Config.maxStations < r.stationsNeeded then r.flag .truncated else r

/-- Steps 1 and 2 of a completion: the missing strips up to the target; the Bool says whether every allocation succeeded (R16). -/
def State.fillStrips (s : State) (i : Fin Config.slots) : State × Bool :=
  let r := s.slot i
  State.allocStrips (min Config.maxStations r.stationsNeeded - r.strips.length) i (s.modSlot i Record.truncateAt)

/-- Step 3 of a completion, and a step of a stall: every OPEN strip of the record is closed and judged against the record's limit set, in ascending station order (R16, R18). -/
def State.closeAll (s : State) (i : Fin Config.slots) : State :=
  s.modSlot i fun r => r.closeStrips (s.limit r.shell.limitSet) fun _ => true

/-- The record becomes VOID with the verdict INCOMPLETE and SHELL_VOID is raised (R16 step 4, R18, R6). -/
def State.voidRecord (s : State) (i : Fin Config.slots) : State :=
  (s.modSlot i fun r => { r with state := .void, verdict := .incomplete }).raise .shellVoid (s.subjectOf i)

/-- The record becomes COMPLETE, its zones are trimmed and its verdict given, and SHELL_COMPLETE is raised (R16 step 4, R131, R132). -/
def State.finishRecord (s : State) (i : Fin Config.slots) : State :=
  (s.modSlot i fun r => { r.giveVerdict (s.limit r.shell.limitSet) with state := .complete }).raise .shellComplete
    (s.subjectOf i)

/-- The record joins the tail of the completion order list (R10). -/
def State.appendCompletion (s : State) (i : Fin Config.slots) : State := { s with completion := s.completion ++ [i] }

/-- The completion of the record in a slot (R16). -/
def State.completeRecord (s : State) (i : Fin Config.slots) : State :=
  let filled := s.fillStrips i
  let s1 := if filled.2 then filled.1 else filled.1.poolShort i
  let s2 := s1.closeAll i
  let s3 :=
    if !filled.2 || hasHistory (s2.slot i).history .truncated then s2.voidRecord i else s2.finishRecord i
  let s4 := s3.appendCompletion i
  s4.setTracker (s4.tracker.endContext i)

/-- A forced completion: CUT_SHORT, then the completion (R17). -/
def State.cutShort (s : State) (i : Fin Config.slots) : State :=
  (s.modSlot i fun r => r.flag .cutShort).completeRecord i

/-! ## The entry detector -/

/-- The other level. -/
def Level.other : Level → Level
  | .dark => .lit
  | .lit => .dark

/-- A change of the raw ENTRY level: a debounce interval begins with the present advance count, or the interval in progress is abandoned (R28). -/
def Tracker.rawChange (t : Tracker) : Tracker :=
  { t with raw := t.raw.other, candidate := if t.raw.other = t.entry then none else some t.advance }

/-- ENTRY_CHANGE (R28). -/
def execEntryChange (s : State) : Host.Outcome State Fault Refusal := .next (s.setTracker s.tracker.rawChange)

/-- The edge of a completed debounce interval is taken: the entry state changes (R28). -/
def Tracker.takeEdge (t : Tracker) (level : Level) : Tracker := { t with entry := level, candidate := none }

/-- Step 1 of an arrival: with two contexts open, the older is completed (R29, R30). -/
def State.makeRoom (s : State) : State :=
  match s.tracker.contexts with
  | older :: _ :: _ => s.cutShort older.slot
  | _ => s

/-- The record at the head of the arming queue becomes MEASURING (R13). -/
def State.bindArmed (s : State) (i : Fin Config.slots) (rest : List (Fin Config.slots)) : State :=
  { s with armQueue := rest }.modSlot i fun r => { r with state := .measuring }

/-- An allocated slot takes an anonymous record made from the template (R14). -/
def State.placeAnonymous (s : State) (i : Fin Config.slots) : State :=
  (s.modSlot i fun r => .made r.generation .measuring s.template none HistoryFlag.unnamed.mask).refUp s.template.grade

/-- Step 2 of an arrival: the record sought for it, or none after UNRECORDED (R13, R14). -/
def State.seekRecord (s : State) : State × Option (Fin Config.slots) :=
  match s.armQueue with
  | i :: rest => (s.bindArmed i rest, some i)
  | [] =>
    if s.defined s.template.grade then
      match s.allocSlot with
      | some (i, s1) => (s1.placeAnonymous i, some i)
      | none => (s.raise .unrecorded .none, none)
    else (s.raise .unrecorded .none, none)

/-- A context is opened for a record, or a blind passage when none was had; the stall timer runs from here (R29, R39, R45). -/
def State.openPassage (s : State) (edge : Word) (found : Option (Fin Config.slots)) : State :=
  s.setTracker (match found with
    | some i =>
      Tracker.settle { s.tracker with
        contexts := s.tracker.contexts ++
          [{ slot := i, generation := (s.slot i).generation, front := edge, tail := none, role := .measuring }] }
    | none => Tracker.settle { s.tracker with blind := true })

/-- An arrival (R29, R30). -/
def State.arrival (s : State) (edge : Word) : State :=
  let sought := s.makeRoom.seekRecord
  sought.1.openPassage edge sought.2

/-- LIT_EDGE (R28, R29): a debounce interval in progress from DARK has run its full length; with none in progress there is no edge (log entry 4). -/
def execLitEdge (s : State) : Host.Outcome State Fault Refusal :=
  .next (match s.tracker.entry, s.tracker.candidate with
    | .dark, some edge => (s.setTracker (s.tracker.takeEdge .lit)).arrival edge
    | _, _ => s)

/-- The length of a shell from its front and tail counts (R31). -/
def Tracker.lengthOf (t : Tracker) (front tail : Word) : Nat :=
  min 4294967295 ((tail - front).toNat * 1000 / t.settings.advanceScale)

/-- A context whose tail has passed (R31, R38). -/
def Context.finish (c : Context) (tail : Word) : Context := { c with tail := some tail, role := .finishing }

/-- The passage of a tail: the MEASURING context and its record become FINISHING, or a blind passage ends (R31, R15). -/
def State.departure (s : State) (edge : Word) : State :=
  match s.tracker.contexts.find? fun c => decide (c.role = .measuring) with
  | some c =>
    (s.setTracker { s.tracker with
      contexts := s.tracker.contexts.map fun d => if d.slot = c.slot then d.finish edge else d }).modSlot c.slot
      fun r => { r with state := .finishing, length := some (s.tracker.lengthOf c.front edge) }
  | none => s.setTracker (Tracker.settle { s.tracker with blind := false })

/-- DARK_EDGE (R28, R31): a debounce interval in progress from LIT has run its full length (log entry 4). -/
def execDarkEdge (s : State) : Host.Outcome State Fault Refusal :=
  .next (match s.tracker.entry, s.tracker.candidate with
    | .lit, some edge => (s.setTracker (s.tracker.takeEdge .dark)).departure edge
    | _, _ => s)

/-! ## Advance -/

/-- One advance pulse on the count; the stall timer restarts (R32, R45). -/
def Tracker.pulse (t : Tracker) : Tracker := { t with advance := t.advance + 1 }.settle

/-- The strips behind the rearmost head are closed: those with (s + 1) × pitch + close distance below d (R44). -/
def State.closeBehind (s : State) (i : Fin Config.slots) (d : Int) : State :=
  s.modSlot i fun r => r.closeStrips (s.limit r.shell.limitSet) fun k =>
    decide ((((k + 1) * r.shell.pitch + s.tracker.settings.closeDistance : Nat) : Int) < d)

/-- A FINISHING record whose shell has passed the rearmost head by the close distance is complete (R44). -/
def State.passed (s : State) (c : Context) (d : Int) : Bool :=
  decide (c.role = .finishing ∧
    (((s.slot c.slot).length.getD 0 + s.tracker.settings.closeDistance : Nat) : Int) < d)

/-- One context at an advance pulse: its closes, then its test (R44). -/
def State.advanceContext (s : State) (c : Context) : State :=
  let d := s.rearDistance c
  let s1 := s.closeBehind c.slot d
  if s1.passed c d then s1.completeRecord c.slot else s1

/-- An advance pulse: the count, then every open context, the older first (R32, R44). -/
def State.advancePulse (s : State) : State :=
  let s1 := s.setTracker s.tracker.pulse
  s1.tracker.contexts.foldl State.advanceContext s1

/-- ADVANCE_PULSE (R32, R44). -/
def execAdvancePulse (s : State) : Host.Outcome State Fault Refusal := .next s.advancePulse

/-- One record at a stall (R18). -/
def State.stallRecord (s : State) (c : Context) : State :=
  (((s.modSlot c.slot fun r => r.flag .stalled).closeAll c.slot).voidRecord c.slot).appendCompletion c.slot

/-- A stall: every bound record becomes VOID, the older context's first, all contexts and any blind passage end, and STALL is raised once (R46, R18). -/
def State.stallAll (s : State) : State :=
  let s1 := s.tracker.contexts.foldl State.stallRecord s
  (s1.setTracker (Tracker.settle { s1.tracker with contexts := [], blind := false })).raise .stall .none

/-- STALL (R46): the stall timer expires; it runs only while a context or a blind passage is open (R45, log entry 4). -/
def execStall (s : State) : Host.Outcome State Fault Refusal :=
  .next (if s.tracker.contexts ≠ [] ∨ s.tracker.blind then s.stallAll else s)

/-! ## Spin -/

/-- SPIN_PULSE (R35). -/
def execSpinPulse (s : State) : Host.Outcome State Fault Refusal :=
  .next (s.setTracker { s.tracker with spinCount := s.tracker.spinCount + 1 })

/-- The spin count differs from the pulses per revolution by more than their sixty-fourth part (R36). -/
def Tracker.slipped (t : Tracker) : Bool :=
  decide (t.settings.spinPulses / 64 < ((t.spinCount.toNat : Int) - (t.settings.spinPulses : Int)).natAbs)

/-- An index pulse on the tracker (R36). -/
def Tracker.index (t : Tracker) : Tracker :=
  { t with
    slips := if t.spin = .synced ∧ t.slipped then countUp t.slips else t.slips
    spinCount := 0
    spin := .synced
    spinTimer := .running }

/-- INDEX_PULSE (R36). -/
def execIndexPulse (s : State) : Host.Outcome State Fault Refusal := .next (s.setTracker s.tracker.index)

/-- Sets a history flag on every record bound to an open context (R37, R55). -/
def State.flagBound (s : State) (f : HistoryFlag) : State :=
  s.tracker.contexts.foldl (fun s1 c => s1.modSlot c.slot fun r => r.flag f) s

/-- The loss of synchronism (R37). -/
def State.loseSpin (s : State) : State :=
  let s1 := s.setTracker { s.tracker with spin := .unsynced, spinTimer := .stopped }
  if s.tracker.contexts = [] then s1 else (s1.flagBound .spinLost).raise .spinLost .none

/-- SPIN_TIMEOUT (R37): the spin timer runs only in SYNCED (log entry 4). -/
def execSpinTimeout (s : State) : Host.Outcome State Fault Refusal :=
  .next (if s.tracker.spin = .synced then s.loseSpin else s)

/-! ## TRACKER SET -/

/-- TRACKER SET at the tracker (R47). -/
def trackerSet (f : TrackerFields) (s : State) : State × Answer :=
  if s.tracker.contexts ≠ [] ∨ s.tracker.blind then (s, .refuse .busy 0 s.tracker.settings.octets)
  else match firstBad 1 (TrackerFields.checks f) with
    | some field => (s, .refuse .range field s.tracker.settings.octets)
    | none =>
      (s.setTracker { s.tracker with settings := TrackerFields.settings f }, .done (TrackerFields.settings f).octets)

/-- TRACKER SET (R47). -/
def execTrackerSet (h : Header) (f : TrackerFields) : State → Host.Outcome State Fault Refusal :=
  answering h rowTrackerSet (trackerSet f)

end Sys2Proof.Machine
end

