-- ==== Sys2Proof/Machine/Heads.lean ====
section
/-! DEFINITION. The head ports (chapter 3): runs and reports on a head line, the report queue, silence, HEAD SET, HEAD ENABLE, HEAD DISABLE and HEAD READ. -/

namespace Sys2Proof.Machine

/-! ## A valid report -/

/-- The head number of a port, 1 to 6. -/
def headNumber (h : Fin Config.heads) : Nat := h + 1

/-- The length of a report of a form (R49, R208). -/
def ReportForm.octetCount : ReportForm → Nat
  | .basic => 5
  | .full => 7

/-- The sum of octets modulo 256. -/
def octetSum (octets : List Byte) : Byte := octets.foldl (· + ·) 0

/-- The report that octets carry, with its stamp (R208). -/
def reportOf (form : ReportForm) (octets : List Byte) (stamp : Stamp) : Report :=
  { sequence := octets.getD 0 0
    interval := leValue ((octets.drop 1).take 2)
    amplitude := (octets.getD 3 0).toNat
    temperature := match form with
      | .basic => none
      | .full => some (leValue ((octets.drop 4).take 2))
    stamp }

/-- The sequence gap of a valid report (R51). -/
def HeadPort.gap (p : HeadPort) (sequence : Byte) : Nat :=
  match p.expected with
  | none => 0
  | some e => (sequence - e).toNat

/-- The sequence check: the gap is added to MISSED and the expected sequence follows the reported one (R51). -/
def HeadPort.checkSequence (p : HeadPort) (sequence : Byte) : HeadPort :=
  { p.count .missed (p.gap sequence) with expected := some (sequence + 1) }

/-- A valid report moves the port to RUNNING and restarts its silence timer; the ready line follows the queue (R54, R53). -/
def HeadPort.keepRunning (p : HeadPort) : HeadPort :=
  HeadPort.settle { p with state := .running, silenceTimer := .running }

/-- The queue holds as many reports as the selected depth (R52). -/
def HeadPort.full (p : HeadPort) : Bool := decide (p.settings.depth ≤ p.queue.length)

/-- A valid report at an enabled port (R51, R52, R54). -/
def State.validReport (s : State) (h : Fin Config.heads) (octets : List Byte) : State :=
  let p := (s.head h).checkSequence (octets.getD 0 0)
  if p.full then
    (s.setHead h (p.count .overrun).keepRunning).raise .headOverrun (.head (headNumber h))
  else
    s.setHead h (HeadPort.keepRunning
      { p with queue := p.queue ++ [reportOf p.settings.form octets (s.stamp h)] })

/-! ## Runs on a head line -/

/-- The line run of a port is replaced. -/
def State.setLine (s : State) (h : Fin Config.heads) (line : LineRun) : State :=
  s.setHead h { s.head h with line }

/-- A run that has reached the form's length: counted CORRUPT for a fault or a bad sum, else taken as a report (R49, R50). -/
def State.runReached (s : State) (h : Fin Config.heads) (octets : List Byte) (fault : Bool) : State :=
  if fault || decide (octetSum octets ≠ 255) then (s.countHead h .corrupt).setLine h (.spent true false)
  else (s.validReport h octets).setLine h (.spent false false)

/-- An octet gathered into the run of an enabled port (R49). -/
def State.gather (s : State) (h : Fin Config.heads) (octets : List Byte) (fault : Bool) : State :=
  if (s.head h).settings.form.octetCount ≤ octets.length then s.runReached h octets fault
  else s.setLine h (.gathering octets fault)

/-- One octet on a head line (R49, R50). -/
def State.octetIn (s : State) (h : Fin Config.heads) (o : RunOctet) : State :=
  match (s.head h).line with
  | .ignoring => s
  | .idle => if (s.head h).enabled then s.gather h [o.value] o.fault else s.setLine h .stray
  | .gathering octets fault => s.gather h (octets ++ [o.value]) (fault || o.fault)
  | .spent counted _ => s.setLine h (.spent counted true)
  | .stray => s

/-- The octets of a run in turn. -/
def State.octetsIn (s : State) (h : Fin Config.heads) (octets : List RunOctet) : State :=
  octets.foldl (fun s1 o => s1.octetIn h o) s

/-- The end of a run, or of the ignoring of octets, after 20 idle bit times (R49, R50). -/
def State.lineGap (s : State) (h : Fin Config.heads) : State :=
  match (s.head h).line with
  | .ignoring => s.setLine h .idle
  | .idle => s
  | .gathering _ _ => (s.countHead h .corrupt).setLine h .idle
  | .spent counted extra =>
    (if !counted && extra then s.countHead h .corrupt else s).setLine h .idle
  | .stray => (s.countHead h .stray).setLine h .idle

/-- The run in progress is one that R50 counts CORRUPT when it ends: a short run, or the remainder of an overlong run whose report was taken. -/
def LineRun.endsCorrupt : LineRun → Bool
  | .gathering _ _ => true
  | .spent counted extra => !counted && extra
  | _ => false

/-- The run in progress is abandoned; with none in progress an idle line stays idle (R49; log entry 13). -/
def LineRun.abandon : LineRun → LineRun
  | .idle => .idle
  | _ => .ignoring

/-- HEAD_REPORT (R49 to R52): the octets of a report arrive, each with a good stop bit. -/
def execHeadReport (h : Fin Config.heads) (octets : List Byte) (s : State) : Host.Outcome State Fault Refusal :=
  .next (s.octetsIn h (octets.map fun o => { value := o, fault := false }))

/-- CORRUPT (R50): the octets arrive, and the run ends where R50 counts it at its end (log entry 24). -/
def execCorrupt (h : Fin Config.heads) (octets : List RunOctet) (s : State) : Host.Outcome State Fault Refusal :=
  let s1 := s.octetsIn h octets
  .next (if (s1.head h).line.endsCorrupt then s1.lineGap h else s1)

/-- STRAY (R50): the octets arrive and the run ends (log entry 24). -/
def execStray (h : Fin Config.heads) (octets : List RunOctet) (s : State) : Host.Outcome State Fault Refusal :=
  .next ((s.octetsIn h octets).lineGap h)

/-- LINE_IDLE_GAP (R49). -/
def execLineIdleGap (h : Fin Config.heads) (s : State) : Host.Outcome State Fault Refusal := .next (s.lineGap h)

/-! ## Silence -/

/-- The silence timer of a RUNNING port runs out (R55). -/
def State.fallSilent (s : State) (h : Fin Config.heads) : State :=
  if s.tracker.contexts = [] then s.setHead h { s.head h with state := .idle, silenceTimer := .stopped }
  else
    ((s.setHead h { s.head h with state := .silent, silenceTimer := .stopped }).flagBound .headSilent).raise
      .headSilent (.head (headNumber h))

/-- SILENCE_TIMEOUT (R55): the silence timer runs only in RUNNING (R54, log entry 4). -/
def execSilenceTimeout (h : Fin Config.heads) (s : State) : Host.Outcome State Fault Refusal :=
  .next (if (s.head h).state = .running then s.fallSilent h else s)

/-! ## Commands -/

/-- HEAD SET at the port (R56). -/
def headSet (head : Byte) (f : HeadFields) (s : State) : State × Answer :=
  match headOf head with
  | none => (s, .refuse .range)
  | some h =>
    if (s.head h).state ≠ .disabled then (s, .refuse .state 0 (s.head h).settings.octets)
    else match firstBad 1 (HeadFields.checks f) with
      | some field => (s, .refuse .range field (s.head h).settings.octets)
      | none => (s.setHead h { s.head h with settings := HeadFields.settings f }, .done (HeadFields.settings f).octets)

/-- HEAD SET (R56). -/
def execHeadSet (h : Header) (head : Byte) (f : HeadFields) : State → Host.Outcome State Fault Refusal :=
  answering h rowHeadSet (headSet head f)

/-- A port after a successful HEAD ENABLE (R57). -/
def HeadPort.enable (p : HeadPort) : HeadPort :=
  HeadPort.settle { p with state := .idle, silenceTimer := .stopped, expected := none, line := p.line.abandon }

/-- HEAD ENABLE at the port (R57). -/
def headEnable (head : Byte) (s : State) : State × Answer :=
  match headOf head with
  | none => (s, .refuse .range)
  | some h =>
    if (s.head h).state ≠ .disabled then (s, .refuse .state)
    else (s.setHead h (s.head h).enable, .done [])

/-- HEAD ENABLE (R57). -/
def execHeadEnable (h : Header) (head : Byte) : State → Host.Outcome State Fault Refusal :=
  answering h rowHeadEnable (headEnable head)

/-- The fourteen counters at 0. -/
def HeadPort.clearCounters (p : HeadPort) : HeadPort := { p with counters := Vector.replicate 14 0 }

/-- A port after HEAD DISABLE (R58). -/
def HeadPort.disable (p : HeadPort) : HeadPort :=
  if p.state = .disabled then { p.clearCounters with line := p.line.abandon }
  else HeadPort.settle
    { p.clearCounters with
      state := .disabled, queue := [], silenceTimer := .stopped, expected := none, line := p.line.abandon }

/-- HEAD DISABLE at the port (R58). -/
def headDisable (head : Byte) (s : State) : State × Answer :=
  match headOf head with
  | none => (s, .refuse .range)
  | some h => (s.setHead h (s.head h).disable, .done [])

/-- HEAD DISABLE (R58). -/
def execHeadDisable (h : Header) (head : Byte) : State → Host.Outcome State Fault Refusal :=
  answering h rowHeadDisable (headDisable head)

/-- A port as HEAD READ gives it (R59, R204). -/
def HeadPort.octets (p : HeadPort) : List Byte :=
  le 1 p.state.code ++ p.settings.octets ++ le 1 p.queue.length ++ le 1 (flagCode p.expected.isSome) ++
    optionalOctets 1 (p.expected.map BitVec.toNat) ++ le 1 (flagCode p.ready) ++ p.counters.toList.flatMap (le 2)

/-- HEAD READ at the port (R59). -/
def headRead (head : Byte) (s : State) : Answer :=
  match headOf head with
  | none => .refuse .range
  | some h => .done (s.head h).octets

/-- HEAD READ (R59). -/
def execHeadRead (h : Header) (head : Byte) : State → Host.Outcome State Fault Refusal :=
  answering h rowHeadRead (reading (headRead head))

end Sys2Proof.Machine
end

