-- ==== Sys2Proof/Machine/Shots.lean ====
section
/-! DEFINITION. The shot engine (3.7) and the way from echo to thickness (4.5 to 4.8): the service of one report. -/

namespace Sys2Proof.Machine

/-! ## Classification and conversion -/

/-- The classes of a shot (R75). -/
inductive ShotClass where
  | noEcho | saturated | weak | good
  deriving DecidableEq, Repr

/-- The head counter of a class (R75). -/
def ShotClass.counter : ShotClass → HeadCounter
  | .noEcho => .noEcho
  | .saturated => .saturated
  | .weak => .weak
  | .good => .good

/-- The fields of an entry as they are read; those of an EMPTY entry read as 0 (R68; log entry 21). -/
def Material.read (m : Material) : MaterialFields :=
  m.fields.getD { gradeCode := 0, v0 := 0, k := 0, tmin := 0, tref := 0, tmax := 0, echoFloor := 0, weak := 0 }

/-- Echo classification (R75). -/
def MaterialFields.classify (m : MaterialFields) (r : Report) : ShotClass :=
  if r.interval = 0 ∨ r.amplitude < m.echoFloor then .noEcho
  else if r.amplitude = 255 then .saturated
  else if r.amplitude < m.weak then .weak
  else .good

/-- The temperature chosen for a WEAK or GOOD shot, before clamping (R77). -/
def MaterialFields.chosenTemp (m : MaterialFields) (r : Report) (last : Option Nat) : Nat :=
  match r.temperature with
  | some t => t
  | none => last.getD m.tref

/-- A temperature clamped to the entry's range (R78). -/
def MaterialFields.clamp (m : MaterialFields) (t : Nat) : Nat :=
  if t < m.tmin then m.tmin else if m.tmax < t then m.tmax else t

/-- The sound velocity at a temperature (R79). -/
def MaterialFields.velocity (m : MaterialFields) (t : Nat) : Nat := m.v0 - m.k * t / 100

/-- The thickness from velocity and echo interval (R80). -/
def thicknessOf (velocity interval : Nat) : Nat := velocity * interval / 2000

/-- The thickness lies in the plausibility window (R81). -/
def inWindow (nominal thickness : Nat) : Bool := within (nominal / 2) (nominal * 3 / 2) thickness

/-- What conversion leaves on the record: CLAMPED when the temperature was replaced, and the last temperature from a FULL report (R77, R78). -/
def Record.tempTaken (r : Record) (m : MaterialFields) (rep : Report) : Record :=
  let chosen := m.chosenTemp rep r.lastTemp
  let r1 := if m.clamp chosen = chosen then r else r.flag .clamped
  match rep.temperature with
  | some _ => { r1 with lastTemp := some (m.clamp chosen) }
  | none => r1

/-- The thickness that conversion gives a shot of a record (R77 to R80). -/
def Record.converted (r : Record) (m : MaterialFields) (rep : Report) : Nat :=
  thicknessOf (m.velocity (m.clamp (m.chosenTemp rep r.lastTemp))) rep.interval

/-! ## Classification to acceptance -/

/-- A shot is rejected (R83). -/
def State.reject (s : State) (i : Fin Config.slots) (station : Nat) (sector : Fin Config.sectors) : State :=
  s.modSlot i fun r => r.rejectShot station sector

/-- A shot is accepted into its cell (R84). -/
def State.accept (s : State) (i : Fin Config.slots) (station : Nat) (sector : Fin Config.sectors) (thickness : Nat) :
    State :=
  s.modSlot i fun r => r.acceptShot (s.limit r.shell.limitSet) station sector thickness

/-- A WEAK or GOOD shot: conversion, the window, and acceptance by the record's live limit set (R77 to R84). -/
def State.convert (s : State) (h : Fin Config.heads) (rep : Report) (i : Fin Config.slots) (station : Nat)
    (sector : Fin Config.sectors) (cls : ShotClass) : State :=
  let r := s.slot i
  let m := (s.material r.shell.grade).read
  let thickness := r.converted m rep
  let s1 := s.modSlot i fun r => r.tempTaken m rep
  if !inWindow r.shell.nominal thickness then (s1.countHead h .window).reject i station sector
  else if cls = .weak ∧ !(s.limit r.shell.limitSet).on .acceptWeak then s1.reject i station sector
  else s1.accept i station sector thickness

/-- A report with its strip found: classification, then rejection or conversion (R75, R76). -/
def State.classify (s : State) (h : Fin Config.heads) (rep : Report) (i : Fin Config.slots) (station : Nat)
    (sector : Fin Config.sectors) : State :=
  let cls := (s.material (s.slot i).shell.grade).read.classify rep
  let s1 := s.countHead h cls.counter
  if cls = .noEcho ∨ cls = .saturated then s1.reject i station sector
  else s1.convert h rep i station sector cls

/-! ## The service of a report -/

/-- The report's record no longer matches its stamp (R63). -/
def Record.orphans (r : Record) (generation : Byte) : Bool := !r.underWay || decide (r.generation ≠ generation)

/-- The second to fourth steps for a placed report (R63 to R66). -/
def State.place (s : State) (h : Fin Config.heads) (rep : Report) (i : Fin Config.slots) (generation : Byte)
    (station : Nat) (sector : Fin Config.sectors) : State :=
  let r := s.slot i
  if r.orphans generation then s.countHead h .orphan
  else if Config.maxStations ≤ station then (s.countHead h .beyond).modSlot i fun r => r.flag .truncated
  else match r.strips[station]? with
    | some st =>
      if st.state = .closed then (s.countHead h .late).modSlot i fun r => { r with late := countUp r.late }
      else s.classify h rep i station sector
    | none =>
      let sought := State.allocStrips (station + 1 - r.strips.length) i s
      if sought.2 then sought.1.classify h rep i station sector
      else (sought.1.countHead h .pool).poolShort i

/-- The head that the engine serves next: the first non-empty queue in the order that follows the pointer (R61). -/
def State.nextHead (s : State) : Option (Fin Config.heads) :=
  ((List.finRange Config.heads).map fun k => s.pointer + 1 + k).find? fun h => !(s.head h).queue.isEmpty

/-- The taking of the head report of a queue: it leaves the queue and the pointer becomes that head (R61); the ready line follows (R53). -/
def State.takeReport (s : State) (h : Fin Config.heads) (rest : List Report) : State :=
  { s.setHead h (HeadPort.settle { s.head h with queue := rest }) with pointer := h }

/-- The service of one report, whole (R61 to R67); with no report queued the engine serves nothing (log entry 4). -/
def State.shotService (s : State) : State :=
  match s.nextHead with
  | none => s
  | some h =>
    match (s.head h).queue with
    | [] => s
    | rep :: rest =>
      match rep.stamp with
      | .unplaced => (s.takeReport h rest).countHead h .unplaced
      | .placed i generation station _ sector => (s.takeReport h rest).place h rep i generation station sector

/-- SHOT_SERVICE (R61). -/
def execShotService (s : State) : Host.Outcome State Fault Refusal := .next s.shotService

end Sys2Proof.Machine
end

