-- ==== Sys2Proof/Machine/Materials.lean ====
section
/-! DEFINITION. The material table's commands (4.3): MATERIAL WRITE, MATERIAL CLEAR and MATERIAL READ. -/

namespace Sys2Proof.Machine

/-- A material entry as its commands carry it: state, eight fields, reference count (R204). -/
def Material.octets (m : Material) : List Byte :=
  le 1 (flagCode m.fields.isSome) ++ le 2 m.read.gradeCode ++ le 2 m.read.v0 ++ le 1 m.read.k ++ le 2 m.read.tmin ++
    le 2 m.read.tref ++ le 2 m.read.tmax ++ le 1 m.read.echoFloor ++ le 1 m.read.weak ++ le 1 m.refs

/-- MATERIAL WRITE at the material table (R71). -/
def materialWrite (entry : Byte) (f : MaterialValues) (s : State) : State × Answer :=
  match entryOf entry with
  | none => (s, .refuse .range)
  | some g =>
    if 0 < (s.material g).refs then (s, .refuse .inUse 0 (s.material g).octets)
    else match firstBad 1 (MaterialValues.checks f) with
      | some field => (s, .refuse .range field (s.material g).octets)
      | none =>
        let written : Material := { s.material g with fields := some (MaterialValues.fields f) }
        (s.setMaterial g written, .done written.octets)

/-- MATERIAL WRITE (R71). -/
def execMaterialWrite (h : Header) (entry : Byte) (f : MaterialValues) : State → Host.Outcome State Fault Refusal :=
  answering h rowMaterialWrite (materialWrite entry f)

/-- MATERIAL CLEAR at the material table (R72). -/
def materialClear (entry : Byte) (s : State) : State × Answer :=
  match entryOf entry with
  | none => (s, .refuse .range)
  | some g =>
    if 0 < (s.material g).refs then (s, .refuse .inUse)
    else (s.setMaterial g { s.material g with fields := none }, .done [])

/-- MATERIAL CLEAR (R72). -/
def execMaterialClear (h : Header) (entry : Byte) : State → Host.Outcome State Fault Refusal :=
  answering h rowMaterialClear (materialClear entry)

/-- MATERIAL READ at the material table (R73). -/
def materialRead (entry : Byte) (s : State) : Answer :=
  match entryOf entry with
  | none => .refuse .range
  | some g => .done (s.material g).octets

/-- MATERIAL READ (R73). -/
def execMaterialRead (h : Header) (entry : Byte) : State → Host.Outcome State Fault Refusal :=
  answering h rowMaterialRead (reading (materialRead entry))

end Sys2Proof.Machine
end

