-- ==== Sys2Proof/Machine/Holding.lean ====
section
/-! DEFINITION. Holding and retiring (chapter 7): CLAIM, RELEASE and the three forms of RETIRE. -/

namespace Sys2Proof.Machine

/-- The body that CLAIM, RELEASE and RETIRE share: slot, generation, one octet of the command's own, claim list (R204). -/
def holdOctets (i : Fin Config.slots) (generation : Byte) (own : Nat) (claims : List Byte) : List Byte :=
  le 1 i ++ [generation] ++ le 1 own ++ claimOctets claims

/-! ## CLAIM and RELEASE -/

/-- CLAIM at the shell table, for the source of the frame (R142). A refusal carries the already-held indication clear (log entry 25). -/
def claim (source : Byte) (i : Fin Config.slots) (s : State) : State × Answer :=
  let r := s.slot i
  if r.retirePending then (s, .refuse .state 0 (holdOctets i r.generation 0 r.claims))
  else if source ∈ r.claims then (s, .done (holdOctets i r.generation 1 r.claims))
  else if Config.claimPlaces ≤ r.claims.length then (s, .refuse .full 0 (holdOctets i r.generation 0 r.claims))
  else
    (s.modSlot i fun r => { r with claims := r.claims ++ [source] },
      .done (holdOctets i r.generation 0 (r.claims ++ [source])))

/-- CLAIM (R142). -/
def execClaim (h : Header) (ref : RecordRef) : State → Host.Outcome State Fault Refusal :=
  answering h rowClaim (withRecord ref (claim h.source))

/-- The claim list without an address (R141). -/
def Record.without (r : Record) (source : Byte) : List Byte := r.claims.filter fun a => decide (a ≠ source)

/-- RELEASE at the shell table, for the source of the frame (R144, R145). -/
def release (source : Byte) (i : Fin Config.slots) (s : State) : State × Answer :=
  let r := s.slot i
  if source ∉ r.claims then (s, .refuse .notHeld)
  else if r.without source = [] ∧ r.retirePending then
    (s.freeRecord i, .done (holdOctets i r.generation 1 []))
  else
    (s.modSlot i fun r => { r with claims := r.without source },
      .done (holdOctets i r.generation 0 (r.without source)))

/-- RELEASE (R144). -/
def execRelease (h : Header) (ref : RecordRef) : State → Host.Outcome State Fault Refusal :=
  answering h rowRelease (withRecord ref (release h.source))

/-! ## RETIRE -/

/-- A retirement that frees the record: the reply gives the generation before and the claims dropped (R146, R154). -/
def State.retireFree (s : State) (i : Fin Config.slots) : State × Answer :=
  (s.freeRecord i, .done (holdOctets i (s.slot i).generation (s.slot i).claims.length []))

/-- RETIRE at the shell table (R146 to R153). -/
def retire (option : RetireOption) (i : Fin Config.slots) (s : State) : State × Answer :=
  let r := s.slot i
  if option = .unknown then (s, .refuse .range 1)
  else if r.state = .armed ∨ option = .force then s.retireFree i
  else if r.underWay then (s, .refuse .state)
  else if r.rejudging then (s, .refuse .busy)
  else if r.claims = [] then s.retireFree i
  else if option = .now then (s, .refuse .held)
  else
    (s.modSlot i fun r => { r with retirePending := true },
      { outcome := .pending, body := holdOctets i r.generation 0 r.claims })

/-- The option that the octet of a RETIRE_NOW command names: NOW, or no option (R146, R199; log entry 14). -/
def nowOption (octet : Byte) : RetireOption := if octet = 0 then .now else .unknown

/-- RETIRE NOW (R146 to R149). -/
def execRetireNow (h : Header) (ref : RecordRef) (octet : Byte) : State → Host.Outcome State Fault Refusal :=
  answering h rowRetire (withRecord ref (retire (nowOption octet)))

/-- RETIRE DEFERRED (R146 to R150). -/
def execRetireDeferred (h : Header) (ref : RecordRef) : State → Host.Outcome State Fault Refusal :=
  answering h rowRetire (withRecord ref (retire .deferred))

/-- RETIRE FORCE (R146, R151 to R153). -/
def execRetireForce (h : Header) (ref : RecordRef) : State → Host.Outcome State Fault Refusal :=
  answering h rowRetire (withRecord ref (retire .force))

end Sys2Proof.Machine
end

