-- ==== Sys2Proof/Machine/RingPort.lean ====
section
/-! DEFINITION. The ring port (chapter 8): SET ADDRESS, STATIONS WRITE, JOIN RING, LEAVE RING, refused and ignored frames, polls, turns and cuts, and POWER ON. -/

namespace Sys2Proof.Machine

/-! ## SET ADDRESS -/

/-- The address that a programmed part gives with a strap value (R164). -/
def addressOf (part strap : Nat) : Nat := part * 4 + strap

/-- SET ADDRESS at the ring port (R165); its RANGE names no field (log entry 12). -/
def setAddress (part : Byte) (s : State) : State × Answer :=
  if part.toNat > 15 ∨ addressOf part.toNat s.ring.strap.toNat ≤ 1 then (s, .refuse .range)
  else
    (s, { outcome := .done
          body := [s.ring.address] ++ le 1 (addressOf part.toNat s.ring.strap.toNat)
          effect := .address (part.setWidth 4) })

/-- SET ADDRESS (R165). -/
def execSetAddress (h : Header) (part : Byte) : State → Host.Outcome State Fault Refusal :=
  answering h rowSetAddress (setAddress part)

/-! ## STATIONS WRITE -/

/-- The station table's entry that an address and a rights set give: address 0 makes it empty (R169). -/
def stationOf (address rights : Byte) : Option Station :=
  if address = 0 then none else some { address, rights := rights.setWidth 6 }

/-- The table that would result from a STATIONS WRITE (R169). -/
def StationFields.result (f : StationFields) (held : Vector (Option Station) Config.stationEntries) :
    Vector (Option Station) Config.stationEntries :=
  Vector.ofFn fun k => match f.entries[k] with
    | none => held[k]
    | some (address, rights) => stationOf address rights

/-- The entries in ascending order. -/
def entryOrder : List (Fin Config.stationEntries) := List.finRange _

/-- A selected entry of STATIONS WRITE has a property. -/
def StationFields.selected (f : StationFields) (k : Fin Config.stationEntries) (p : Byte → Byte → Bool) : Bool :=
  match f.entries[k] with
  | none => false
  | some (address, rights) => p address rights

/-- The entry's address is held by another entry of a table (R169 check 4). -/
def sharesAddress (table : Vector (Option Station) Config.stationEntries) (k : Fin Config.stationEntries) : Bool :=
  match table[k] with
  | none => false
  | some st => entryOrder.any fun j => decide (j ≠ k) && decide ((table[j].map Station.address) = some st.address)

/-- The first check of STATIONS WRITE that fails: its outcome and its field octet (R169, R204). -/
def StationFields.fault (f : StationFields) (held : Vector (Option Station) Config.stationEntries) :
    Option (ReplyCode × Nat) :=
  if f.highSelect ≠ 0 then some (.range, 0)
  else
    ((entryOrder.find? fun k => StationFields.selected f k fun a _ => decide (a = 1)).map fun k => (ReplyCode.range, k.val + 1))
    <|> ((entryOrder.find? fun k => StationFields.selected f k fun _ r => decide (r &&& ~~~0x3F#8 ≠ 0)).map fun k =>
      (ReplyCode.range, k.val + 1))
    <|> ((entryOrder.find? fun k => StationFields.selected f k (fun _ _ => true) &&
        sharesAddress (StationFields.result f held) k).map fun k => (ReplyCode.duplicate, k.val + 1))

/-- The station table as octets (R201, R204). -/
def stationOctets (table : Vector (Option Station) Config.stationEntries) : List Byte :=
  table.toList.flatMap fun e => match e with
    | none => [0, 0]
    | some st => st.address :: le 1 st.rights.toNat

/-- STATIONS WRITE at the ring port (R169). -/
def stationsWrite (f : StationFields) (s : State) : State × Answer :=
  match StationFields.fault f s.ring.stations with
  | some (o, field) => (s, .refuse o field (stationOctets s.ring.stations))
  | none =>
    (s.setRing { s.ring with stations := StationFields.result f s.ring.stations },
      .done (stationOctets (StationFields.result f s.ring.stations)))

/-- STATIONS WRITE (R169). -/
def execStationsWrite (h : Header) (f : StationFields) : State → Host.Outcome State Fault Refusal :=
  answering h rowStationsWrite (stationsWrite f)

/-! ## JOIN RING and LEAVE RING -/

/-- JOIN RING at the ring port (R176). -/
def joinRing (s : State) : State × Answer :=
  (if s.ring.state = .offRing then s.setRing (s.ring.enter .joining) else s, .done [])

/-- JOIN RING (R176). -/
def execJoinRing (h : Header) : State → Host.Outcome State Fault Refusal := answering h rowJoinRing joinRing

/-- LEAVE RING at the ring port (R177); in ACTIVE as in ON_RING (log entry 17). -/
def leaveRing (s : State) : State × Answer :=
  match s.ring.state with
  | .offRing => (s, .done [])
  | .joining => (s.setRing (s.ring.enter .offRing), .done [])
  | _ => (s, { outcome := .done, body := [], effect := .leave })

/-- LEAVE RING (R177). -/
def execLeaveRing (h : Header) : State → Host.Outcome State Fault Refusal := answering h rowLeaveRing leaveRing

/-! ## Frames that carry no command for a block -/

/-- MALFORMED: a request that check 2 of R170 refuses; the body is not examined further. -/
def execMalformed (h : Header) (code : Byte) (_body : List Byte) (s : State) : Host.Outcome State Fault Refusal :=
  .next (s.request h { code, need := none } false fun s => (s, .done []))

/-- IGNORED_BROADCAST: a request with destination 0 that is not carried out (R166); the tag and the body are not examined. -/
def execIgnoredBroadcast (source code : Byte) (_body : List Byte) (s : State) : Host.Outcome State Fault Refusal :=
  .next (s.request { dest := 0, source, tag := 0 } { code, need := none } false fun s => (s, .done []))

/-- A closed POLL frame: source 0 is a FORMAT fault (R162); a POLL for the part or broadcast sets the permit (R163, R178). -/
def State.pollFrame (s : State) (dest source : Byte) : State :=
  let s1 := s.frameIn
  if source = 0 then s1.countRing .format
  else if dest = 0 ∨ dest = s1.ring.address then s1.setRing { s1.ring with permit := true }
  else s1

/-- POLL (R178). -/
def execPoll (dest source : Byte) (s : State) : Host.Outcome State Fault Refusal := .next (s.pollFrame dest source)

/-- A closed frame that R162 discards: the frame is received and its counter counts. -/
def State.discardFrame (s : State) (content : List Bool) : State :=
  match frameCheck content with
  | .discarded c => s.frameIn.countRing c
  | _ => s.delimiterIn

/-- FRAME_DISCARD (R162). -/
def execFrameDiscard (content : List Bool) (s : State) : Host.Outcome State Fault Refusal :=
  .next (s.discardFrame content)

/-- The receiver in HUNT with a run of 1s in progress (R159). -/
def Receiver.huntingAt (r : Receiver) (ones : Nat) : Receiver := { r.hunting with ones }

/-- LONG_FRAME: the frame opened by a delimiter, which cut a turn in progress, reaches its 257th octet, long after what a release or a cut had still to drive (R162, R180, R181; log entry 3). -/
def execLongFrame (s : State) : Host.Outcome State Fault Refusal :=
  .next ((s.setRing { s.ring.frame with rx := s.ring.rx.hunting }).countRing .long)

/-- ABORT: the frame opened by a delimiter, which cut a turn in progress, ends in six 1s, which may stand within the eight 1s of that cut (R159, R181; log entry 3). -/
def execAbort (s : State) : Host.Outcome State Fault Refusal :=
  .next ((s.setRing { s.ring.cut with rx := s.ring.rx.huntingAt 6 }).countRing .aborts)

/-- DELIMITER_RECEIVED (R159, R181). -/
def execDelimiterReceived (s : State) : Host.Outcome State Fault Refusal := .next s.delimiterIn

/-! ## Joining and turns -/

/-- The twelfth 1 of an idle run: in JOINING the part becomes ON_RING and begins to repeat with the next bit (R175; log entry 16). -/
def RingPort.idleRun (r : RingPort) : RingPort :=
  let r1 := { r with rx := r.rx.huntingAt 12 }
  if r.state = .joining then { r1.enter .onRing with held := none } else r1

/-- IDLE_RUN (R175). -/
def execIdleRun (s : State) : Host.Outcome State Fault Refusal := .next (s.setRing s.ring.idleRun)

/-- The octets of a reply's frame (R160, R161, R198). -/
def Reply.octets (r : Reply) : List Byte :=
  withCheck ([r.dest, r.source, kindReply, r.code, r.tag, r.outcome.code] ++ r.body)

/-- The sixth 1 of a release: with the permit set and a reply queued, the part in ON_RING takes the turn (R179). -/
def RingPort.takeTurn (r : RingPort) : RingPort :=
  let r1 := { r with rx := r.rx.huntingAt 6 }
  match r.replies with
  | [] => r1
  | reply :: _ =>
    if r.state = .onRing ∧ r.permit then
      { r1.enter .active with
        phase := .sending, sentInTurn := 0, leaveMarked := false, toDrive := frameAfterOnes reply.octets }
    else r1

/-- TAKE_TURN (R179). -/
def execTakeTurn (s : State) : Host.Outcome State Fault Refusal := .next (s.setRing s.ring.takeTurn)

/-- The effect of a reply that has been sent (R180, R165, R177). -/
def RingPort.applyEffect (r : RingPort) : ReplyEffect → RingPort
  | .none => r
  | .address part => { r with part }
  | .leave => { r with leaveMarked := true }

/-- The turn ends after a reply: eight sent, the queue empty, or a LEAVE RING reply (R180). -/
def turnEnds (sent : Nat) (effect : ReplyEffect) (rest : List Reply) : Bool :=
  decide (Config.turnReplies ≤ sent ∨ rest = [] ∨ effect = .leave)

/-- What follows a reply in a turn: the end of the turn, which clears the permit and begins the release, or the next reply's frame (R180, R158; log entry 9). -/
def RingPort.goOn (r : RingPort) (effect : ReplyEffect) : RingPort :=
  if turnEnds r.sentInTurn effect r.replies then
    { r with permit := false, phase := .releasing, toDrive := releaseBits }
  else match r.replies with
    | [] => r
    | next :: _ => { r with toDrive := frameAfterFrame next.octets }

/-- The last bit of a reply's closing delimiter: the reply leaves the queue and takes its effect (R180). -/
def RingPort.replySent (r : RingPort) : RingPort :=
  match r.replies with
  | [] => r
  | sent :: rest =>
    if r.state = .active ∧ r.phase = .sending then
      RingPort.goOn { r.applyEffect sent.effect with replies := rest, sentInTurn := r.sentInTurn + 1 } sent.effect
    else r

/-- REPLY_SENT (R180): a reply is being sent only in a turn (log entry 4). -/
def execReplySent (s : State) : Host.Outcome State Fault Refusal := .next (s.setRing s.ring.replySent)

/-- TURN_END (R180). -/
def execTurnEnd (s : State) : Host.Outcome State Fault Refusal := .next (s.setRing s.ring.turnEnd)

/-- TURN_CUT (R181): a delimiter is received while a reply is being sent. -/
def execTurnCut (s : State) : Host.Outcome State Fault Refusal := .next s.delimiterIn

/-- CUT_END (R181). -/
def execCutEnd (s : State) : Host.Outcome State Fault Refusal := .next (s.setRing s.ring.cutEnd)

/-! ## Power-on -/

/-- Every block at its power-on values; the ENTRY line, the waiting commands and the bits on RING IN are outside the part and stay (R197; log entry 6). -/
def State.applySupply (s : State) (straps : BitVec 2) : State :=
  { State.powerOn straps s.tracker.raw with pending := s.pending, ringIn := s.ringIn }

/-- POWER_ON (R197). -/
def execPowerOn (straps : BitVec 2) (s : State) : Host.Outcome State Fault Refusal := .next (s.applySupply straps)

end Sys2Proof.Machine
end

