-- ==== Sys2Proof/Machine/Notices.lean ====
section
/-! DEFINITION. Notices and part status (chapter 9): NOTICE MASK, FETCH NOTICE, PART STATUS, COUNTERS READ, COUNTERS CLEAR and RESTART. -/

namespace Sys2Proof.Machine

/-! ## The notice unit -/

/-- The places of the notice kinds, the highest priority first (R188). -/
def noticeOrder : List (Fin 11) := List.finRange _

/-- The set of pending kinds (R199). -/
def NoticeUnit.pendingSet (n : NoticeUnit) : Nat :=
  pack (n.entries.toList.map fun e => (1, flagCode e.pending))

/-- NOTICE MASK at the notice unit (R187). -/
def noticeMask (mask : Half) (s : State) : State × Answer :=
  if mask.toNat ≥ 2 ^ 11 then (s, .refuse .range 1 (le 2 s.notices.mask.toNat ++ le 2 s.notices.pendingSet))
  else
    (s.setNotices (NoticeUnit.settle { s.notices with mask := mask.setWidth 11 }),
      .done (le 2 mask.toNat ++ le 2 s.notices.pendingSet))

/-- NOTICE MASK (R187). -/
def execNoticeMask (h : Header) (mask : Half) : State → Host.Outcome State Fault Refusal :=
  answering h rowNoticeMask (noticeMask mask)

/-- A notice subject as octets (R200). -/
def Subject.octets : Subject → List Byte
  | .none => [0] ++ le 4 0 ++ [0]
  | .head n => [1] ++ le 4 n ++ [0]
  | .shell id => [2] ++ le 4 id.toNat ++ [0]
  | .slot i generation => [3] ++ le 4 i ++ [generation]

/-- The kind that FETCH NOTICE selects: the first in priority that is pending and enabled (R188). -/
def NoticeUnit.selected (n : NoticeUnit) : Option (Fin 11) :=
  noticeOrder.find? fun k => n.entries[k].pending && n.mask.getLsbD k

/-- The notice unit with a kind's entry cleared; the attention line follows (R188, R186). -/
def NoticeUnit.fetched (n : NoticeUnit) (k : Fin 11) : NoticeUnit :=
  NoticeUnit.settle { n with entries := n.entries.set k {} }

/-- FETCH NOTICE at the notice unit (R188). -/
def fetchNotice (s : State) : State × Answer :=
  match s.notices.selected with
  | none => (s, .done ([0, 0] ++ Subject.none.octets ++ le 2 s.notices.pendingSet))
  | some k =>
    let e := s.notices.entries[k]
    (s.setNotices (s.notices.fetched k),
      .done (le 1 (k + 1) ++ le 1 e.count ++ e.subject.octets ++ le 2 (s.notices.fetched k).pendingSet))

/-- FETCH NOTICE (R188). -/
def execFetchNotice (h : Header) : State → Host.Outcome State Fault Refusal := answering h rowFetchNotice fetchNotice

/-! ## PART STATUS and the counters -/

/-- The tracking contexts of PART STATUS: a count octet and two places of slot and role (R201, R204). -/
def contextOctets (contexts : List Context) : List Byte :=
  le 1 contexts.length ++
    ((contexts.flatMap fun c => le 1 c.slot ++ le 1 c.role.code) ++ List.replicate (4 - 2 * contexts.length) 0)

/-- The rejudge engine of PART STATUS: state, slot, station reached; 0s while IDLE (R204). -/
def engineOctets : Option RejudgeRun → List Byte
  | none => [0, 0] ++ le 2 0
  | some run => [1] ++ le 1 run.slot ++ le 2 run.reached

/-- The number of FREE slots. -/
def State.freeSlots (s : State) : Nat := slotOrder.countP fun i => !(s.slot i).live

/-- PART STATUS's reply (R191, R204). -/
def partStatus (s : State) : Answer :=
  .done (le 1 s.ring.state.code ++ le 1 (flagCode s.ring.permit) ++ [s.ring.address] ++ le 1 s.ring.replies.length ++
    contextOctets s.tracker.contexts ++ le 1 (flagCode s.tracker.blind) ++ le 1 s.tracker.spin.code ++
    (s.heads.toList.flatMap fun p => le 1 p.state.code) ++ le 2 s.freeStrips ++ le 1 s.freeSlots ++
    le 1 s.armQueue.length ++ engineOctets s.engine ++ le 2 s.notices.pendingSet ++ le 2 s.notices.mask.toNat ++
    le 1 (flagCode s.notices.attention))

/-- PART STATUS (R191). -/
def execPartStatus (h : Header) : State → Host.Outcome State Fault Refusal :=
  answering h rowPartStatus (reading partStatus)

/-- The eight ring counters and the spin slip count (R192). -/
def countersRead (s : State) : Answer := .done (s.ring.counters.toList.flatMap (le 2) ++ le 2 s.tracker.slips)

/-- COUNTERS READ (R192). -/
def execCountersRead (h : Header) : State → Host.Outcome State Fault Refusal :=
  answering h rowCountersRead (reading countersRead)

/-- COUNTERS CLEAR: the nine values are answered as they stood, then set to 0 (R193). -/
def countersClear (s : State) : State × Answer :=
  ((s.setRing { s.ring with counters := Vector.replicate _ 0 }).setTracker { s.tracker with slips := 0 },
    countersRead s)

/-- COUNTERS CLEAR (R193). -/
def execCountersClear (h : Header) : State → Host.Outcome State Fault Refusal :=
  answering h rowCountersClear countersClear

/-! ## RESTART -/

/-- The tracker after RESTART: a lit ENTRY line differs from the entry state at once, and the candidate count is the present one (R48, R196). -/
def Tracker.restart (t : Tracker) : Tracker :=
  { t with
    entry := .dark, candidate := if t.raw = .lit then some t.advance else none, stallTimer := .stopped, spinCount := 0,
    spin := .unsynced, spinTimer := .stopped, slips := 0, contexts := [], blind := false }

/-- A head port after RESTART (R60). -/
def HeadPort.restart (p : HeadPort) : HeadPort :=
  HeadPort.settle
    { p with
      state := if p.state = .disabled then .disabled else .idle
      queue := [], expected := none, line := p.line.abandon, silenceTimer := .stopped, counters := Vector.replicate 14 0 }

/-- The ring port after RESTART, before its reply joins the queue (R183). -/
def RingPort.restart (r : RingPort) : RingPort := { r with replies := [], counters := Vector.replicate _ 0 }

/-- The notice unit after RESTART (R190). -/
def NoticeUnit.restart (n : NoticeUnit) : NoticeUnit :=
  { n with entries := Vector.replicate _ {}, attention := false }

/-- Every block's restart in one event (R195). The reply stands first in the queue because every other reply is discarded (R183). -/
def State.restart (s : State) : State :=
  { s with
    slots := Vector.replicate _ (Record.free 0)
    armQueue := []
    completion := []
    tracker := s.tracker.restart
    heads := Vector.ofFn fun i => (s.head i).restart
    pointer := 5
    materials := Vector.ofFn fun g => { s.material g with refs := 0 }
    freeStrips := Config.poolStrips
    engine := none
    ring := s.ring.restart
    notices := s.notices.restart }

/-- RESTART (R194, R195). -/
def execRestart (h : Header) : State → Host.Outcome State Fault Refusal :=
  answering h rowRestart fun s => (s.restart, .done [])

end Sys2Proof.Machine
end

