-- ==== Sys2Proof/Decode.lean ====
section
/-! DEFINITION. From frames to commands: the request bodies of R202 read and written, the command that a closed frame stands for (R162 to R166), and the host's table word. The opcode table gives no row any bits, so no word spells a command. -/

namespace Sys2Proof

open Machine

/-- The command that a word spells by the opcode table's bits: none, since no row gives bits. -/
def decodeTableWord (_nbits _w : Nat) : Option Instr := none

/-! ## Fields of a body -/

/-- A two-octet field, low octet first (R199). -/
def halfOf (b0 b1 : Byte) : Half := b1 ++ b0

/-- A four-octet field, low octet first (R199). -/
def wordOf (b0 b1 b2 b3 : Byte) : Word := b3 ++ b2 ++ b1 ++ b0

/-- A record reference from its five octets (R200). -/
def refOf (f b0 b1 b2 b3 : Byte) : RecordRef := { form := f, octets := wordOf b0 b1 b2 b3 }

/-- A command whose body is a record reference alone. -/
def parseRef (make : RecordRef → Instr) : List Byte → Option Instr
  | [f, b0, b1, b2, b3] => some (make (refOf f b0 b1 b2 b3))
  | _ => none

/-- A command whose body is one octet. -/
def parseOctet (make : Byte → Instr) : List Byte → Option Instr
  | [b] => some (make b)
  | _ => none

/-- A command without a body. -/
def parseEmpty (i : Instr) : List Byte → Option Instr
  | [] => some i
  | _ => none

/-- The seven shell fields (R202). -/
def parseShell : List Byte → Option ShellFields
  | [g, l, hd, p0, p1, n0, n1, n2, n3, lead, tail] =>
    some { grade := g, limitSet := l, hand := hd, pitch := halfOf p0 p1, nominal := wordOf n0 n1 n2 n3,
           leadCrop := lead, tailCrop := tail }
  | _ => none

/-- The body of ARM. -/
def parseArm (h : Header) : List Byte → Option Instr
  | i0 :: i1 :: i2 :: i3 :: rest => (parseShell rest).map fun f => .arm h (wordOf i0 i1 i2 i3) f
  | _ => none

/-- The body of FIND. -/
def parseFind (h : Header) : List Byte → Option Instr
  | [st, v, f0, f1, f2] => some (.find h st v (f2 ++ f1 ++ f0))
  | _ => none

/-- A selected value of `n` octets, or nothing when it is not selected (R201). -/
def readIf (selected : Bool) (w n : Nat) (body : List Byte) : Option (Option (BitVec w) × List Byte) :=
  if selected then
    if n ≤ body.length then some (some (leField w (body.take n)), body.drop n) else none
  else some (none, body)

/-- A select set names no field beyond its own; a body with other bits has no defined length (R199). -/
def selects (w : Nat) (fields : Nat) (set : BitVec w) : Bool := decide (set.toNat < 2 ^ fields)

/-- The selected values of AMEND, in field-list order (R202). -/
def parseAmendFields (set : Half) (b0 : List Byte) : Option AmendFields := do
  guard (selects 16 9 set)
  let (shellId, b1) ← readIf (set.getLsbD 0) 32 4 b0
  let (limitSet, b2) ← readIf (set.getLsbD 1) 8 1 b1
  let (tailCrop, b3) ← readIf (set.getLsbD 2) 8 1 b2
  let (grade, b4) ← readIf (set.getLsbD 3) 8 1 b3
  let (hand, b5) ← readIf (set.getLsbD 4) 8 1 b4
  let (pitch, b6) ← readIf (set.getLsbD 5) 16 2 b5
  let (nominal, b7) ← readIf (set.getLsbD 6) 32 4 b6
  let (leadCrop, b8) ← readIf (set.getLsbD 7) 8 1 b7
  let (clearHistory, b9) ← readIf (set.getLsbD 8) 16 2 b8
  guard b9.isEmpty
  some { shellId, limitSet, tailCrop, grade, hand, pitch, nominal, leadCrop, clearHistory }

/-- The body of AMEND. -/
def parseAmend (h : Header) : List Byte → Option Instr
  | f :: b0 :: b1 :: b2 :: b3 :: s0 :: s1 :: rest =>
    (parseAmendFields (halfOf s0 s1) rest).map fun v => .amend h (refOf f b0 b1 b2 b3) v
  | _ => none

/-- The body of TRACKER SET. -/
def parseTrackerSet (h : Header) : List Byte → Option Instr
  | [a0, a1, p0, p1, c0, c1, s0, s1, n0, n1, t0, t1, d] =>
    some (.trackerSet h
      { advanceScale := halfOf a0 a1, headPlane := halfOf p0 p1, closeDistance := halfOf c0 c1,
        stallTime := halfOf s0 s1, spinPulses := halfOf n0 n1, spinTimeout := halfOf t0 t1, debounce := d })
  | _ => none

/-- The body of HEAD SET. -/
def parseHeadSet (h : Header) : List Byte → Option Instr
  | [n, a0, a1, o0, o1, f, d, m, t] =>
    some (.headSet h n
      { angle := halfOf a0 a1, offset := halfOf o0 o1, form := f, depth := d, mode := m, silence := t })
  | _ => none

/-- The body of MATERIAL WRITE. -/
def parseMaterialWrite (h : Header) : List Byte → Option Instr
  | [e, g0, g1, v0, v1, k, l0, l1, r0, r1, u0, u1, floor, weak] =>
    some (.materialWrite h e
      { gradeCode := halfOf g0 g1, v0 := halfOf v0 v1, k, tmin := halfOf l0 l1, tref := halfOf r0 r1,
        tmax := halfOf u0 u1, echoFloor := floor, weak })
  | _ => none

/-- The body of READ STRIPS. -/
def parseReadStrips (h : Header) : List Byte → Option Instr
  | [f, b0, b1, b2, b3, form, s0, s1, n] => some (.readStrips h (refOf f b0 b1 b2 b3) form (halfOf s0 s1) n)
  | _ => none

/-- The masks and selected values of LIMIT WRITE, in field-table order (R202). -/
def parseLimitFields (set keep put : Byte) (b0 : List Byte) : Option LimitFields := do
  guard (selects 8 7 set)
  let (lower, b1) ← readIf (set.getLsbD 0) 16 2 b0
  let (upper, b2) ← readIf (set.getLsbD 1) 16 2 b1
  let (ecc, b3) ← readIf (set.getLsbD 2) 16 2 b2
  let (settle, b4) ← readIf (set.getLsbD 3) 8 1 b3
  let (eccCells, b5) ← readIf (set.getLsbD 4) 8 1 b4
  let (guardStrips, b6) ← readIf (set.getLsbD 5) 8 1 b5
  let (minGood, b7) ← readIf (set.getLsbD 6) 16 2 b6
  guard b7.isEmpty
  some { keep, put, lower, upper, ecc, settle, eccCells, guard := guardStrips, minGood }

/-- The body of LIMIT WRITE. -/
def parseLimitWrite (h : Header) : List Byte → Option Instr
  | n :: set :: keep :: put :: rest => (parseLimitFields set keep put rest).map fun f => .limitWrite h n f
  | _ => none

/-- The body of RETIRE: the option octet decides the command (R146); a code that names no option goes with NOW (log entry 14). -/
def parseRetire (h : Header) : List Byte → Option Instr
  | [f, b0, b1, b2, b3, o] =>
    let ref := refOf f b0 b1 b2 b3
    some (if o = 1 then .retireDeferred h ref else if o = 2 then .retireForce h ref else .retireNow h ref o)
  | _ => none

/-- The selected entries of STATIONS WRITE among the given entry numbers, with nothing left over (R201, R202). -/
def readEntries (set : Byte) : List Nat → List Byte → Option (List (Option (Byte × Byte)))
  | [], [] => some []
  | [], _ :: _ => none
  | k :: ks, body =>
    if set.getLsbD k then
      match body with
      | a :: r :: rest => (readEntries set ks rest).map fun es => some (a, r) :: es
      | _ => none
    else (readEntries set ks body).map fun es => none :: es

/-- The body of STATIONS WRITE. -/
def parseStationsWrite (h : Header) : List Byte → Option Instr
  | s0 :: s1 :: rest =>
    (readEntries s0 (List.range Config.stationEntries) rest).map fun es =>
      .stationsWrite h { highSelect := s1, entries := Vector.ofFn fun k => es.getD k none }
  | _ => none

/-- The body of NOTICE MASK. -/
def parseNoticeMask (h : Header) : List Byte → Option Instr
  | [m0, m1] => some (.noticeMask h (halfOf m0 m1))
  | _ => none

/-- The body of ARM's neighbour TEMPLATE WRITE: the seven shell fields alone. -/
def parseTemplateWrite (h : Header) (body : List Byte) : Option Instr :=
  (parseShell body).map fun f => .templateWrite h f

/-- How the body of each request code is read (R202). -/
def bodyParsers (h : Header) : List (RequestRow × (List Byte → Option Instr)) :=
  [(rowArm, parseArm h), (rowDisarm, parseRef (.disarm h)), (rowLookup, parseRef (.lookup h)),
   (rowFind, parseFind h), (rowAmend, parseAmend h), (rowTemplateWrite, parseTemplateWrite h),
   (rowTemplateRead, parseEmpty (.templateRead h)), (rowTrackerSet, parseTrackerSet h),
   (rowHeadSet, parseHeadSet h), (rowHeadEnable, parseOctet (.headEnable h)),
   (rowHeadDisable, parseOctet (.headDisable h)), (rowHeadRead, parseOctet (.headRead h)),
   (rowMaterialWrite, parseMaterialWrite h), (rowMaterialClear, parseOctet (.materialClear h)),
   (rowMaterialRead, parseOctet (.materialRead h)), (rowPoolStatus, parseEmpty (.poolStatus h)),
   (rowPoolSet, parseOctet (.poolSet h)), (rowReadStrips, parseReadStrips h),
   (rowLimitWrite, parseLimitWrite h), (rowLimitRead, parseOctet (.limitRead h)),
   (rowReadZones, parseRef (.readZones h)), (rowRejudge, parseRef (.rejudge h)), (rowClaim, parseRef (.claim h)),
   (rowRelease, parseRef (.release h)), (rowRetire, parseRetire h), (rowSetAddress, parseOctet (.setAddress h)),
   (rowStationsWrite, parseStationsWrite h), (rowJoinRing, parseEmpty (.joinRing h)),
   (rowLeaveRing, parseEmpty (.leaveRing h)), (rowNoticeMask, parseNoticeMask h),
   (rowFetchNotice, parseEmpty (.fetchNotice h)), (rowPartStatus, parseEmpty (.partStatus h)),
   (rowCountersRead, parseEmpty (.countersRead h)), (rowCountersClear, parseEmpty (.countersClear h)),
   (rowRestart, parseEmpty (.restart h))]

/-- The parser of a code, if the code is known. -/
def parserOf (code : Byte) : List (RequestRow × (List Byte → Option Instr)) → Option (List Byte → Option Instr)
  | [] => none
  | (row, parse) :: rest => if code = row.code then some parse else parserOf code rest

/-- The command of a request with a known code and a body of the right length; none otherwise (R170 check 2). -/
def parseRequest (h : Header) (code : Byte) (body : List Byte) : Option Instr :=
  match parserOf code (bodyParsers h) with
  | some parse => parse body
  | none => none

/-! ## From a closed frame to a command -/

/-- The command of an accepted REQUEST frame (R163, R166). -/
def requestCommand (h : Header) (code : Byte) (body : List Byte) : Instr :=
  if h.dest = 0 then
    if code = restartCode ∧ h.source = 1 ∧ body = [] then .restart h else .ignoredBroadcast h.source code body
  else (parseRequest h code body).getD (.malformed h code body)

/-- The command of a frame whose checks 1 to 4 passed, at the part's address (R162 check 5, R163). -/
def passedCommand (address : Byte) : List Byte → Instr
  | dest :: source :: kind :: rest =>
    if dest ≠ 0 ∧ dest ≠ address then .delimiterReceived
    else if kind = kindPoll then .poll dest source
    else if kind = kindRequest then
      match rest with
      | code :: tag :: more => requestCommand { dest, source, tag } code (more.take (more.length - 2))
      | _ => .delimiterReceived
    else .delimiterReceived
  | _ => .delimiterReceived

/-- The command that a closed frame with the given content is (R162). -/
def frameCommand (address : Byte) (content : List Bool) : Instr :=
  match frameCheck content with
  | .ignored => .delimiterReceived
  | .discarded _ => .frameDiscard content
  | .passed octets => passedCommand address octets

/-! ## From a command to a frame -/

/-- A two-octet field as octets. -/
def halfOctets (v : Half) : List Byte := [v.extractLsb' 0 8, v.extractLsb' 8 8]

/-- A four-octet field as octets. -/
def wordOctets (v : Word) : List Byte :=
  [v.extractLsb' 0 8, v.extractLsb' 8 8, v.extractLsb' 16 8, v.extractLsb' 24 8]

/-- A record reference as octets (R200). -/
def refOctets (r : RecordRef) : List Byte := r.form :: wordOctets r.octets

/-- The seven shell fields as octets. -/
def shellOctets (f : ShellFields) : List Byte :=
  [f.grade, f.limitSet, f.hand] ++ halfOctets f.pitch ++ wordOctets f.nominal ++ [f.leadCrop, f.tailCrop]

/-- A select set from the presence of its fields, bit 0 first (R201). -/
def selectSet (present : List Bool) : Nat := pack (present.map fun b => (1, flagCode b))

/-- The octets of a selected value, and nothing for an unselected one (R201). -/
def octetsIf {w : Nat} (v : Option (BitVec w)) (octets : BitVec w → List Byte) : List Byte :=
  match v with
  | none => []
  | some x => octets x

/-- The select set and selected values of AMEND. -/
def amendOctets (f : AmendFields) : List Byte :=
  halfOctets (BitVec.ofNat 16 (selectSet [f.shellId.isSome, f.limitSet.isSome, f.tailCrop.isSome, f.grade.isSome,
      f.hand.isSome, f.pitch.isSome, f.nominal.isSome, f.leadCrop.isSome, f.clearHistory.isSome])) ++
    octetsIf f.shellId wordOctets ++ octetsIf f.limitSet (fun b => [b]) ++ octetsIf f.tailCrop (fun b => [b]) ++
    octetsIf f.grade (fun b => [b]) ++ octetsIf f.hand (fun b => [b]) ++ octetsIf f.pitch halfOctets ++
    octetsIf f.nominal wordOctets ++ octetsIf f.leadCrop (fun b => [b]) ++ octetsIf f.clearHistory halfOctets

/-- The seven tracker settings as they are carried. -/
def trackerOctets (f : TrackerFields) : List Byte :=
  halfOctets f.advanceScale ++ halfOctets f.headPlane ++ halfOctets f.closeDistance ++ halfOctets f.stallTime ++
    halfOctets f.spinPulses ++ halfOctets f.spinTimeout ++ [f.debounce]

/-- The six head settings as they are carried. -/
def headOctets (f : HeadFields) : List Byte :=
  halfOctets f.angle ++ halfOctets f.offset ++ [f.form, f.depth, f.mode, f.silence]

/-- The eight material values as they are carried. -/
def materialOctets (f : MaterialValues) : List Byte :=
  halfOctets f.gradeCode ++ halfOctets f.v0 ++ [f.k] ++ halfOctets f.tmin ++ halfOctets f.tref ++ halfOctets f.tmax ++
    [f.echoFloor, f.weak]

/-- The select set, masks and selected values of LIMIT WRITE. -/
def limitOctets (f : LimitFields) : List Byte :=
  [BitVec.ofNat 8 (selectSet [f.lower.isSome, f.upper.isSome, f.ecc.isSome, f.settle.isSome, f.eccCells.isSome,
      f.guard.isSome, f.minGood.isSome]), f.keep, f.put] ++
    octetsIf f.lower halfOctets ++ octetsIf f.upper halfOctets ++ octetsIf f.ecc halfOctets ++
    octetsIf f.settle (fun b => [b]) ++ octetsIf f.eccCells (fun b => [b]) ++ octetsIf f.guard (fun b => [b]) ++
    octetsIf f.minGood halfOctets

/-- The octets of the selected entries of a list (R201). -/
def entryOctets (es : List (Option (Byte × Byte))) : List Byte :=
  es.flatMap fun e => match e with
    | none => []
    | some (a, r) => [a, r]

/-- The select set and selected entries of STATIONS WRITE. -/
def stationsOctets (f : StationFields) : List Byte :=
  [BitVec.ofNat 8 (selectSet (f.entries.toList.map Option.isSome)), f.highSelect] ++ entryOctets f.entries.toList

/-- The header, code and body of a request command (R198, R202); none for a command that is no request. -/
def requestOctets : Instr → Option (Header × Byte × List Byte)
  | .arm h id f => some (h, rowArm.code, wordOctets id ++ shellOctets f)
  | .disarm h ref => some (h, rowDisarm.code, refOctets ref)
  | .lookup h ref => some (h, rowLookup.code, refOctets ref)
  | .find h st v fl => some (h, rowFind.code,
      [st, v, fl.extractLsb' 0 8, fl.extractLsb' 8 8, fl.extractLsb' 16 8])
  | .amend h ref f => some (h, rowAmend.code, refOctets ref ++ amendOctets f)
  | .templateWrite h f => some (h, rowTemplateWrite.code, shellOctets f)
  | .templateRead h => some (h, rowTemplateRead.code, [])
  | .trackerSet h f => some (h, rowTrackerSet.code, trackerOctets f)
  | .headSet h n f => some (h, rowHeadSet.code, n :: headOctets f)
  | .headEnable h n => some (h, rowHeadEnable.code, [n])
  | .headDisable h n => some (h, rowHeadDisable.code, [n])
  | .headRead h n => some (h, rowHeadRead.code, [n])
  | .materialWrite h e f => some (h, rowMaterialWrite.code, e :: materialOctets f)
  | .materialClear h e => some (h, rowMaterialClear.code, [e])
  | .materialRead h e => some (h, rowMaterialRead.code, [e])
  | .poolStatus h => some (h, rowPoolStatus.code, [])
  | .poolSet h b => some (h, rowPoolSet.code, [b])
  | .readStrips h ref form first count =>
    some (h, rowReadStrips.code, refOctets ref ++ [form] ++ halfOctets first ++ [count])
  | .limitWrite h n f => some (h, rowLimitWrite.code, n :: limitOctets f)
  | .limitRead h n => some (h, rowLimitRead.code, [n])
  | .readZones h ref => some (h, rowReadZones.code, refOctets ref)
  | .rejudge h ref => some (h, rowRejudge.code, refOctets ref)
  | .claim h ref => some (h, rowClaim.code, refOctets ref)
  | .release h ref => some (h, rowRelease.code, refOctets ref)
  | .retireNow h ref o => some (h, rowRetire.code, refOctets ref ++ [o])
  | .retireDeferred h ref => some (h, rowRetire.code, refOctets ref ++ [1])
  | .retireForce h ref => some (h, rowRetire.code, refOctets ref ++ [2])
  | .setAddress h p => some (h, rowSetAddress.code, [p])
  | .stationsWrite h f => some (h, rowStationsWrite.code, stationsOctets f)
  | .joinRing h => some (h, rowJoinRing.code, [])
  | .leaveRing h => some (h, rowLeaveRing.code, [])
  | .noticeMask h m => some (h, rowNoticeMask.code, halfOctets m)
  | .fetchNotice h => some (h, rowFetchNotice.code, [])
  | .partStatus h => some (h, rowPartStatus.code, [])
  | .countersRead h => some (h, rowCountersRead.code, [])
  | .countersClear h => some (h, rowCountersClear.code, [])
  | .restart h => some (h, rowRestart.code, [])
  | .malformed h code body => some (h, code, body)
  | _ => none

/-- The octets of a REQUEST frame (R198, R161). -/
def requestFrame (h : Header) (code : Byte) (body : List Byte) : List Byte :=
  withCheck ([h.dest, h.source, kindRequest, code, h.tag] ++ body)

/-- The octets of a POLL frame (R198, R161). -/
def pollFrameOctets (dest source : Byte) : List Byte := withCheck [dest, source, kindPoll]

/-- The octets of the frame that carries a request or a POLL command; none for a command that is no such frame. -/
def commandFrame (i : Instr) : Option (List Byte) :=
  match i with
  | .poll dest source => some (pollFrameOctets dest source)
  | .ignoredBroadcast source code body => some (requestFrame { dest := 0, source, tag := 0 } code body)
  | _ => (requestOctets i).map fun r => requestFrame r.1 r.2.1 r.2.2

end Sys2Proof
end

