-- ==== Sys2Proof/WellFormed.lean ====
section
/-! DEFINITION. Well-formed commands: a Bool check per constructor that says which terms are commands that can reach the part. `exec` is total and does not ask for it. -/

namespace Sys2Proof

open Machine

/-- A request header that an accepted REQUEST frame for the part carries: a source other than 0 (R162 check 4) and a destination other than 0 (R163, R166). -/
def Header.requests (h : Header) : Bool := decide (h.source ≠ 0) && decide (h.dest ≠ 0)

/-- A RESTART's header: as any request's, or the broadcast from address 1 (R166). -/
def Header.restarts (h : Header) : Bool := h.requests || (decide (h.dest = 0) && decide (h.source = 1))

/-- The sum of a report's octets is 255 modulo 256 and its length is that of a form (R208). -/
def reportFits (octets : List Byte) : Bool :=
  (decide (octets.length = 5) || decide (octets.length = 7)) && decide (octets.foldl (· + ·) 0 = 255)

/-- A frame content that R162 discards. -/
def discardFits (content : List Bool) : Bool :=
  match frameCheck content with
  | .discarded _ => true
  | _ => false

/-- A command is well formed. -/
def Instr.wellFormed (i : Instr) : Bool :=
  match i with
  | .retireNow h _ option => h.requests && decide (option ≠ 1) && decide (option ≠ 2)
  | .restart h => h.restarts
  | .malformed h code body => h.requests && (parseRequest h code body).isNone
  | .ignoredBroadcast source code body =>
    decide (source ≠ 0) && !(decide (source = 1) && decide (code = restartCode) && decide (body = []))
  | .poll _ source => decide (source ≠ 0)
  | .frameDiscard content => discardFits content
  | .headReport _ octets => reportFits octets
  | .corrupt _ octets => !octets.isEmpty
  | .stray _ octets => !octets.isEmpty
  | _ => match requestOctets i with
    | some (h, _, _) => h.requests
    | none => true

end Sys2Proof
end

