-- ==== Sys2Proof/Machine/RingBits.lean ====
section
/-! DEFINITION. One bit time of the ring: a bit received on RING IN, a bit driven on RING OUT, and the commands these bring about (R158, R159, R174, R179 to R181). -/

namespace Sys2Proof.Machine

/-- The bit driven on RING OUT in a bit time: nothing in OFF_RING and JOINING, the bit received before in ON_RING, the next bit of the turn in ACTIVE (R174). -/
def RingPort.drives (r : RingPort) : Option Bool :=
  match r.state with
  | .offRing => none
  | .joining => none
  | .onRing => r.held
  | .active => r.toDrive.head?

/-- What the last bit driven brings about (R180, R181). -/
def TurnPhase.event : TurnPhase → List Instr
  | .none => []
  | .sending => [.replySent]
  | .releasing => [.turnEnd]
  | .cutting => [.cutEnd]

/-- The event of a bit time in which the part drives the last bit of a reply, a release or a cut (R180, R181). -/
def RingPort.sentEvent (r : RingPort) : List Instr :=
  if r.state = .active ∧ r.toDrive.length = 1 then r.phase.event else []

/-- The command of an event at the receiver (R159, R162, R175, R179, R181). -/
def RingPort.receivedEvent (r : RingPort) : RxEvent → Instr
  | .delimiter => if r.state = .active ∧ r.phase = .sending then .turnCut else .delimiterReceived
  | .closed content => frameCommand r.address content
  | .abort => .abort
  | .long => .longFrame
  | .release => .takeTurn
  | .idle => .idleRun

/-- The ring port after a bit time, before the commands of that bit time. -/
def RingPort.bitTime (r : RingPort) (b : Bool) : RingPort :=
  { r with
    rx := (r.rx.bit b).1
    ringOut := r.drives
    held := some b
    toDrive := if r.state = .active then r.toDrive.tail else r.toDrive }

/-- The commands of a bit time: what was sent is taken before what was received (log entry 15). -/
def RingPort.bitEvents (r : RingPort) (b : Bool) : List Instr :=
  r.sentEvent ++ ((r.rx.bit b).2.map r.receivedEvent).toList

/-- One bit time of the ring (log entry 1). -/
def State.ringBit (s : State) (b : Bool) (rest : List Bool) : State :=
  { s.setRing (s.ring.bitTime b) with ringIn := rest, pending := s.pending ++ s.ring.bitEvents b }

/-- What the part does with no command waiting: a bit time when a bit waits on RING IN, nothing otherwise (log entry 1). -/
def State.idle (s : State) : State :=
  match s.ringIn with
  | [] => s
  | b :: rest => s.ringBit b rest

end Sys2Proof.Machine
end

