-- ==== Sys2Proof/Machine/Dispatch.lean ====
section
/-! DEFINITION. One arm per command: each calls the command's meaning. -/

namespace Sys2Proof.Machine

/-- The effect of a command on everything but the queue of waiting commands. -/
def exec (i : Instr) (s : State) : Host.Outcome State Fault Refusal :=
  match i with
  | .arm h id f => Sys2Proof.Machine.execArm h id f s
  | .disarm h ref => Sys2Proof.Machine.execDisarm h ref s
  | .lookup h ref => Sys2Proof.Machine.execLookup h ref s
  | .find h states verdicts flags => Sys2Proof.Machine.execFind h states verdicts flags s
  | .amend h ref f => Sys2Proof.Machine.execAmend h ref f s
  | .templateWrite h f => Sys2Proof.Machine.execTemplateWrite h f s
  | .templateRead h => Sys2Proof.Machine.execTemplateRead h s
  | .trackerSet h f => Sys2Proof.Machine.execTrackerSet h f s
  | .headSet h head f => Sys2Proof.Machine.execHeadSet h head f s
  | .headEnable h head => Sys2Proof.Machine.execHeadEnable h head s
  | .headDisable h head => Sys2Proof.Machine.execHeadDisable h head s
  | .headRead h head => Sys2Proof.Machine.execHeadRead h head s
  | .materialWrite h entry f => Sys2Proof.Machine.execMaterialWrite h entry f s
  | .materialClear h entry => Sys2Proof.Machine.execMaterialClear h entry s
  | .materialRead h entry => Sys2Proof.Machine.execMaterialRead h entry s
  | .poolStatus h => Sys2Proof.Machine.execPoolStatus h s
  | .poolSet h setting => Sys2Proof.Machine.execPoolSet h setting s
  | .readStrips h ref form first count => Sys2Proof.Machine.execReadStrips h ref form first count s
  | .limitWrite h set f => Sys2Proof.Machine.execLimitWrite h set f s
  | .limitRead h set => Sys2Proof.Machine.execLimitRead h set s
  | .readZones h ref => Sys2Proof.Machine.execReadZones h ref s
  | .rejudge h ref => Sys2Proof.Machine.execRejudge h ref s
  | .claim h ref => Sys2Proof.Machine.execClaim h ref s
  | .release h ref => Sys2Proof.Machine.execRelease h ref s
  | .retireNow h ref option => Sys2Proof.Machine.execRetireNow h ref option s
  | .retireDeferred h ref => Sys2Proof.Machine.execRetireDeferred h ref s
  | .retireForce h ref => Sys2Proof.Machine.execRetireForce h ref s
  | .setAddress h part => Sys2Proof.Machine.execSetAddress h part s
  | .stationsWrite h f => Sys2Proof.Machine.execStationsWrite h f s
  | .joinRing h => Sys2Proof.Machine.execJoinRing h s
  | .leaveRing h => Sys2Proof.Machine.execLeaveRing h s
  | .noticeMask h mask => Sys2Proof.Machine.execNoticeMask h mask s
  | .fetchNotice h => Sys2Proof.Machine.execFetchNotice h s
  | .partStatus h => Sys2Proof.Machine.execPartStatus h s
  | .countersRead h => Sys2Proof.Machine.execCountersRead h s
  | .countersClear h => Sys2Proof.Machine.execCountersClear h s
  | .restart h => Sys2Proof.Machine.execRestart h s
  | .malformed h code body => Sys2Proof.Machine.execMalformed h code body s
  | .ignoredBroadcast source code body => Sys2Proof.Machine.execIgnoredBroadcast source code body s
  | .poll dest source => Sys2Proof.Machine.execPoll dest source s
  | .frameDiscard content => Sys2Proof.Machine.execFrameDiscard content s
  | .longFrame => Sys2Proof.Machine.execLongFrame s
  | .abort => Sys2Proof.Machine.execAbort s
  | .idleRun => Sys2Proof.Machine.execIdleRun s
  | .takeTurn => Sys2Proof.Machine.execTakeTurn s
  | .replySent => Sys2Proof.Machine.execReplySent s
  | .turnEnd => Sys2Proof.Machine.execTurnEnd s
  | .turnCut => Sys2Proof.Machine.execTurnCut s
  | .cutEnd => Sys2Proof.Machine.execCutEnd s
  | .entryChange => Sys2Proof.Machine.execEntryChange s
  | .litEdge => Sys2Proof.Machine.execLitEdge s
  | .darkEdge => Sys2Proof.Machine.execDarkEdge s
  | .advancePulse => Sys2Proof.Machine.execAdvancePulse s
  | .stall => Sys2Proof.Machine.execStall s
  | .spinPulse => Sys2Proof.Machine.execSpinPulse s
  | .indexPulse => Sys2Proof.Machine.execIndexPulse s
  | .spinTimeout => Sys2Proof.Machine.execSpinTimeout s
  | .headReport port octets => Sys2Proof.Machine.execHeadReport port octets s
  | .corrupt port octets => Sys2Proof.Machine.execCorrupt port octets s
  | .stray port octets => Sys2Proof.Machine.execStray port octets s
  | .silenceTimeout port => Sys2Proof.Machine.execSilenceTimeout port s
  | .shotService => Sys2Proof.Machine.execShotService s
  | .rejudgeStep => Sys2Proof.Machine.execRejudgeStep s
  | .powerOn straps => Sys2Proof.Machine.execPowerOn straps s
  | .lineIdleGap port => Sys2Proof.Machine.execLineIdleGap port s
  | .delimiterReceived => Sys2Proof.Machine.execDelimiterReceived s

end Sys2Proof.Machine
end

