-- ==== Sys2Proof/Safety.lean ====
section
/-! DEFINITION. What statements say of requests, and the invariants that the spec's rules give the part: lines and timers that follow the state, the strips of the pool, the bounds of lists and counters, the links between the shell table and the other blocks, the zone lists, and the ring port's turn. -/

namespace Sys2Proof.Machine

/-! ## What statements say of requests -/

/-- A request with the header, for a command of the row, is admitted and carried out: it is for the part alone, the reply queue has room and the source holds the right (R162, R163, R168, R170). -/
structure State.Admits (s : State) (h : Header) (row : RequestRow) : Prop where
  source : h.source ≠ 0
  single : h.dest ≠ 0
  part : h.dest = s.ring.address
  room : s.ring.replies.length < Config.replyPlaces
  right : s.ring.permits h.source row.need = true

/-- The state with one reply more at the tail of the reply queue: to the request's source, from the part's address, with the request's code and tag (R171). -/
def State.answered (s : State) (h : Header) (code : Byte) (outcome : ReplyCode) (body : List Byte)
    (effect : ReplyEffect := .none) : State :=
  s.setRing { s.ring with replies := s.ring.replies ++
    [{ dest := h.source, source := s.ring.address, code, tag := h.tag, outcome, body, effect }] }

/-- The header of a request command (R198). -/
def requestHeader (i : Instr) : Option Header := (requestOctets i).map Prod.fst

/-- The code of a request command (R202). -/
def requestCode (i : Instr) : Option Byte := (requestOctets i).map fun r => r.2.1

/-- The right that a code needs: a row of the request table (R202). -/
def codeRow (code : Byte) : Option RequestRow :=
  (bodyParsers { dest := 0, source := 0, tag := 0 }).map Prod.fst |>.find? fun row => decide (row.code = code)

/-! ## The values of power-on -/

/-- The values that power-on gives the blocks, for the given strap levels (R27, R48, R60, R61, R74, R91, R113, R135, R183, R190, 1.8, 2.8, 3.5, 6.1); the ENTRY line is an input and is not among them. -/
structure PowerOnValues (straps : BitVec 2) (s : State) : Prop where
  slots : ∀ i, s.slot i = Record.free 0
  armQueue : s.armQueue = []
  completion : s.completion = []
  template : s.template =
    { grade := 0, limitSet := 0, hand := .forward, pitch := 50, nominal := 20000, leadCrop := 2, tailCrop := 2 }
  entry : s.tracker.entry = .dark
  counts : s.tracker.advance = 0 ∧ s.tracker.spinCount = 0 ∧ s.tracker.slips = 0
  spin : s.tracker.spin = .unsynced ∧ s.tracker.spinTimer = .stopped ∧ s.tracker.stallTimer = .stopped
  passages : s.tracker.contexts = [] ∧ s.tracker.blind = false
  trackerSettings : s.tracker.settings =
    { advanceScale := 2000, headPlane := 1500, closeDistance := 50, stallTime := 2000, spinPulses := 1024,
      spinTimeout := 1000, debounce := 5 }
  heads : ∀ h, (s.head h).state = .disabled ∧ (s.head h).queue = [] ∧ (s.head h).expected = none ∧
    (s.head h).silenceTimer = .stopped ∧ (s.head h).ready = false ∧ (s.head h).line = .ignoring ∧
    ∀ c : Fin 14, (s.head h).counters[c] = 0
  headSettings : ∀ h, (s.head h).settings =
    { angle := [0, 682, 1365, 2048, 2730, 3413].getD h 0, offset := 0, form := .full, depth := 8, mode := .hold,
      silence := 20 }
  pointer : headNumber s.pointer = 6
  materials : ∀ g, s.material g = { fields := none, refs := 0 }
  pool : s.freeStrips = 4096 ∧ s.eviction = true
  limits : ∀ l, s.limit l =
    { lower := 100, upper := 100, eccLimit := 100, settle := 3, eccCells := 8, guard := 1, minGood := 3000, controls := 0 }
  engine : s.engine = none
  ringState : s.ring.state = .joining ∧ s.ring.bypass = true ∧ s.ring.rx.state = .hunt ∧ s.ring.rx.ones = 0
  address : s.ring.part = 10 ∧ s.ring.strap = straps
  replies : s.ring.permit = false ∧ s.ring.replies = []
  stations : ∀ k : Fin Config.stationEntries, s.ring.stations[k] = none
  ringCounters : ∀ c : Fin 8, s.ring.counters[c] = 0
  notices : (∀ k : Fin 11, s.notices.entries[k] = { pending := false, count := 0, subject := .none }) ∧
    s.notices.attention = false ∧ ∀ k : Fin 11, s.notices.mask.getLsbD k = true

/-! ## Lines and timers -/

/-- The lines and timers of the part follow its state: ATTN (R186), the ready lines (R53), BYPASS and RING OUT (R174), the stall timer (R45), the spin timer (R37) and the silence timers (R54). -/
structure LinesFollow (s : State) : Prop where
  attention : s.notices.attention = noticeOrder.any fun k => s.notices.entries[k].pending && s.notices.mask.getLsbD k
  ready : ∀ h, (s.head h).ready = ((s.head h).enabled && (match (s.head h).settings.mode with
    | .hold => decide ((s.head h).queue.length < (s.head h).settings.depth)
    | .drop => true))
  bypass : s.ring.bypass = decide (s.ring.state = .offRing ∨ s.ring.state = .joining)
  undriven : s.ring.bypass = true → s.ring.ringOut = none
  stall : s.tracker.stallTimer = .running ↔ s.tracker.contexts ≠ [] ∨ s.tracker.blind = true
  spin : s.tracker.spinTimer = .running ↔ s.tracker.spin = .synced
  silence : ∀ h, (s.head h).silenceTimer = .running ↔ (s.head h).state = .running

/-! ## The pool -/

/-- Strips held by the records. -/
def State.heldStrips (s : State) : Nat := (slotOrder.map fun i => (s.slot i).strips.length).sum

/-- Every strip of the pool is free or held by one record, and a FREE record holds none (R85, R2). -/
structure PoolConserved (s : State) : Prop where
  total : s.freeStrips + s.heldStrips = Config.poolStrips
  free : ∀ i, (s.slot i).state = .free → (s.slot i).strips = []

/-! ## Bounds -/

/-- The bounds of one record: claims (R141), strips (R42, R16), zones (R127) and shot counters (R7). -/
structure Record.Bounded (r : Record) : Prop where
  claims : r.claims.length ≤ Config.claimPlaces
  distinct : r.claims.Nodup
  strips : r.strips.length ≤ Config.maxStations
  zones : r.zones.length ≤ Config.maxZones
  accepted : r.accepted ≤ Config.counterTop
  rejected : r.rejected ≤ Config.counterTop
  late : r.late ≤ Config.counterTop

/-- The bounds of one head port: its queue within the selected depth (R52), empty while DISABLED, and its counters (3.5). -/
structure HeadPort.Bounded (p : HeadPort) : Prop where
  queue : p.queue.length ≤ p.settings.depth
  empty : p.state = .disabled → p.queue = []
  counters : ∀ c : Fin 14, p.counters[c] ≤ Config.counterTop

/-- The bounds of lists and counters (R7, R52, R141, R172, R182, R184). -/
structure Bounded (s : State) : Prop where
  records : ∀ i, (s.slot i).Bounded
  heads : ∀ h, (s.head h).Bounded
  replies : s.ring.replies.length ≤ Config.replyPlaces
  ringCounters : ∀ c : Fin 8, s.ring.counters[c] ≤ Config.counterTop
  slips : s.tracker.slips ≤ Config.counterTop
  notices : ∀ k : Fin 11, s.notices.entries[k].count ≤ 255

/-! ## Links of the shell table -/

/-- The arming queue holds each ARMED record exactly once, at most 4, and no other record (R9). -/
structure ArmingLinked (s : State) : Prop where
  once : s.armQueue.Nodup
  short : s.armQueue.length ≤ Config.armingPlaces
  armed : ∀ i, i ∈ s.armQueue ↔ (s.slot i).state = .armed

/-- The completion order list holds each COMPLETE and VOID record exactly once, and no other record (R10). -/
structure CompletionLinked (s : State) : Prop where
  once : s.completion.Nodup
  finished : ∀ i, i ∈ s.completion ↔ (s.slot i).finished = true

/-- A record is in MEASURING or FINISHING exactly when a context is bound to it; at most two contexts are open, at most one MEASURING, and none MEASURING nor a blind passage while the entry state is DARK (R29, R38, R39). -/
structure ContextsLinked (s : State) : Prop where
  distinct : (s.tracker.contexts.map Context.slot).Nodup
  two : s.tracker.contexts.length ≤ 2
  generation : ∀ c ∈ s.tracker.contexts, c.generation = (s.slot c.slot).generation
  measuring : ∀ i, (∃ c ∈ s.tracker.contexts, c.slot = i ∧ c.role = .measuring) ↔ (s.slot i).state = .measuring
  finishing : ∀ i, (∃ c ∈ s.tracker.contexts, c.slot = i ∧ c.role = .finishing) ↔ (s.slot i).state = .finishing
  oneMeasuring : (s.tracker.contexts.filter fun c => decide (c.role = .measuring)).length ≤ 1
  blindApart : s.tracker.blind = true → ∀ c ∈ s.tracker.contexts, c.role = .finishing
  dark : s.tracker.entry = .dark → s.tracker.blind = false ∧ ∀ c ∈ s.tracker.contexts, c.role = .finishing

/-- REJUDGING marks the one record that the engine holds, which is COMPLETE or VOID (R135, R136). -/
structure EngineLinked (s : State) : Prop where
  held : ∀ i, (s.slot i).rejudging = true ↔ ∃ run, s.engine = some run ∧ run.slot = i
  finished : ∀ i, (s.slot i).rejudging = true → (s.slot i).finished = true

/-- RETIRE_PENDING stands only on a COMPLETE or VOID record with claims that is not REJUDGING (R141, R145, R150). -/
def PendingLinked (s : State) : Prop :=
  ∀ i, (s.slot i).retirePending = true →
    (s.slot i).finished = true ∧ (s.slot i).claims ≠ [] ∧ (s.slot i).rejudging = false

/-- A FREE record holds no shell: it is the record of R2 in its slot's generation. -/
def FreeBlank (s : State) : Prop := ∀ i, (s.slot i).state = .free → s.slot i = Record.free (s.slot i).generation

/-- No two live records carry the same shell id (R4). -/
def IdsDistinct (s : State) : Prop :=
  ∀ i j, i ≠ j → (s.slot i).state ≠ .free → (s.slot j).state ≠ .free → (s.slot i).shellId ≠ none →
    (s.slot i).shellId ≠ (s.slot j).shellId

/-- The number of live records that name a material entry (R69). -/
def State.naming (s : State) (g : Fin Config.materials) : Nat :=
  slotOrder.countP fun i => (s.slot i).live && decide ((s.slot i).shell.grade = g)

/-- Each material entry's reference count is the number of live records naming it, and an entry with a count is DEFINED (R69). -/
structure RefsCounted (s : State) : Prop where
  count : ∀ g, (s.material g).refs = s.naming g
  defined : ∀ g, 0 < (s.material g).refs → (s.material g).fields.isSome = true

/-- A record has the verdict NONE until it is COMPLETE or VOID, and a VOID record has INCOMPLETE (R6). -/
def VerdictsLinked (s : State) : Prop :=
  ∀ i, ((s.slot i).finished = false → (s.slot i).verdict = .none) ∧
    ((s.slot i).state = .void → (s.slot i).verdict = .incomplete)

/-- The links between the shell table, the tracker, the rejudge engine and the material table. -/
structure TableLinked (s : State) : Prop where
  arming : ArmingLinked s
  completion : CompletionLinked s
  contexts : ContextsLinked s
  engine : EngineLinked s
  pending : PendingLinked s
  blank : FreeBlank s
  ids : IdsDistinct s
  refs : RefsCounted s
  verdicts : VerdictsLinked s

/-! ## Zone lists -/

/-- A zone list in order: at most 16 zones, each from its first to its last station, no station above 1,023, and more than one station between a zone's last and the next one's first (R127, R128, R129). -/
structure Record.ZonesOrdered (r : Record) : Prop where
  strips : r.strips.length ≤ Config.maxStations
  few : r.zones.length ≤ Config.maxZones
  span : ∀ z ∈ r.zones, z.first ≤ z.last ∧ z.last ≤ Config.lastStation
  apart : r.zones.Pairwise fun a b => a.last + 1 < b.first

/-- Every record's zone list is in order. -/
def ZonesInOrder (s : State) : Prop := ∀ i, (s.slot i).ZonesOrdered

/-! ## The entry detector -/

/-- A candidate edge is held exactly while the raw ENTRY level differs from the entry state (R28). -/
def CandidateFollows (s : State) : Prop := s.tracker.candidate.isSome = true ↔ s.tracker.raw ≠ s.tracker.entry

/-! ## The ring port -/

/-- The address that a SET ADDRESS reply holds is 2 or above (R165). -/
def ReplyEffect.allowed (strap : BitVec 2) : ReplyEffect → Prop
  | .address part => 2 ≤ addressOf part.toNat strap.toNat
  | _ => True

/-- The ring port: a phase of a turn exactly in ACTIVE (R180, R181), a reply in hand while one is being sent, an address of 2 or above (R164, R165), and a station table without address 0, address 1 or a repeated address (R167). -/
structure RingSound (r : RingPort) : Prop where
  phase : r.phase = .none ↔ r.state ≠ .active
  sending : r.phase = .sending → r.replies ≠ []
  address : 2 ≤ addressOf r.part.toNat r.strap.toNat
  effects : ∀ reply ∈ r.replies, reply.effect.allowed r.strap
  stations : ∀ k st, r.stations[(k : Fin Config.stationEntries)] = some st → 2 ≤ st.address.toNat
  distinct : ∀ j k, j ≠ k → ∀ st, r.stations[(j : Fin Config.stationEntries)] = some st →
    (r.stations[(k : Fin Config.stationEntries)].map Station.address) ≠ some st.address

end Sys2Proof.Machine
end

