-- ==== Sys2Proof/Laws/State.lean ====
section
/-! SUPPORT. One lemma per field per named update of the state, so that no later proof unfolds a record update. -/

namespace Sys2Proof.Laws

open Sys2Proof.Machine

/-! ## setSlot -/

@[simp] theorem setSlot_slots (s : State) (i : Fin Config.slots) (r : Record) : (s.setSlot i r).slots = s.slots.set i r := rfl
@[simp] theorem setSlot_armQueue (s : State) (i : Fin Config.slots) (r : Record) : (s.setSlot i r).armQueue = s.armQueue := rfl
@[simp] theorem setSlot_completion (s : State) (i : Fin Config.slots) (r : Record) : (s.setSlot i r).completion = s.completion := rfl
@[simp] theorem setSlot_template (s : State) (i : Fin Config.slots) (r : Record) : (s.setSlot i r).template = s.template := rfl
@[simp] theorem setSlot_tracker (s : State) (i : Fin Config.slots) (r : Record) : (s.setSlot i r).tracker = s.tracker := rfl
@[simp] theorem setSlot_heads (s : State) (i : Fin Config.slots) (r : Record) : (s.setSlot i r).heads = s.heads := rfl
@[simp] theorem setSlot_pointer (s : State) (i : Fin Config.slots) (r : Record) : (s.setSlot i r).pointer = s.pointer := rfl
@[simp] theorem setSlot_materials (s : State) (i : Fin Config.slots) (r : Record) : (s.setSlot i r).materials = s.materials := rfl
@[simp] theorem setSlot_freeStrips (s : State) (i : Fin Config.slots) (r : Record) : (s.setSlot i r).freeStrips = s.freeStrips := rfl
@[simp] theorem setSlot_eviction (s : State) (i : Fin Config.slots) (r : Record) : (s.setSlot i r).eviction = s.eviction := rfl
@[simp] theorem setSlot_limits (s : State) (i : Fin Config.slots) (r : Record) : (s.setSlot i r).limits = s.limits := rfl
@[simp] theorem setSlot_engine (s : State) (i : Fin Config.slots) (r : Record) : (s.setSlot i r).engine = s.engine := rfl
@[simp] theorem setSlot_ring (s : State) (i : Fin Config.slots) (r : Record) : (s.setSlot i r).ring = s.ring := rfl
@[simp] theorem setSlot_notices (s : State) (i : Fin Config.slots) (r : Record) : (s.setSlot i r).notices = s.notices := rfl
@[simp] theorem setSlot_pending (s : State) (i : Fin Config.slots) (r : Record) : (s.setSlot i r).pending = s.pending := rfl
@[simp] theorem setSlot_ringIn (s : State) (i : Fin Config.slots) (r : Record) : (s.setSlot i r).ringIn = s.ringIn := rfl
@[simp] theorem setSlot_head (s : State) (i : Fin Config.slots) (r : Record) (k : Fin Config.heads) : (s.setSlot i r).head k = s.head k := rfl
@[simp] theorem setSlot_material (s : State) (i : Fin Config.slots) (r : Record) (q : Fin Config.materials) : (s.setSlot i r).material q = s.material q := rfl
@[simp] theorem setSlot_limit (s : State) (i : Fin Config.slots) (r : Record) (q : Fin Config.limitSets) : (s.setSlot i r).limit q = s.limit q := rfl

/-! ## setHead -/

@[simp] theorem setHead_slots (s : State) (h : Fin Config.heads) (p : HeadPort) : (s.setHead h p).slots = s.slots := rfl
@[simp] theorem setHead_armQueue (s : State) (h : Fin Config.heads) (p : HeadPort) : (s.setHead h p).armQueue = s.armQueue := rfl
@[simp] theorem setHead_completion (s : State) (h : Fin Config.heads) (p : HeadPort) : (s.setHead h p).completion = s.completion := rfl
@[simp] theorem setHead_template (s : State) (h : Fin Config.heads) (p : HeadPort) : (s.setHead h p).template = s.template := rfl
@[simp] theorem setHead_tracker (s : State) (h : Fin Config.heads) (p : HeadPort) : (s.setHead h p).tracker = s.tracker := rfl
@[simp] theorem setHead_heads (s : State) (h : Fin Config.heads) (p : HeadPort) : (s.setHead h p).heads = s.heads.set h p := rfl
@[simp] theorem setHead_pointer (s : State) (h : Fin Config.heads) (p : HeadPort) : (s.setHead h p).pointer = s.pointer := rfl
@[simp] theorem setHead_materials (s : State) (h : Fin Config.heads) (p : HeadPort) : (s.setHead h p).materials = s.materials := rfl
@[simp] theorem setHead_freeStrips (s : State) (h : Fin Config.heads) (p : HeadPort) : (s.setHead h p).freeStrips = s.freeStrips := rfl
@[simp] theorem setHead_eviction (s : State) (h : Fin Config.heads) (p : HeadPort) : (s.setHead h p).eviction = s.eviction := rfl
@[simp] theorem setHead_limits (s : State) (h : Fin Config.heads) (p : HeadPort) : (s.setHead h p).limits = s.limits := rfl
@[simp] theorem setHead_engine (s : State) (h : Fin Config.heads) (p : HeadPort) : (s.setHead h p).engine = s.engine := rfl
@[simp] theorem setHead_ring (s : State) (h : Fin Config.heads) (p : HeadPort) : (s.setHead h p).ring = s.ring := rfl
@[simp] theorem setHead_notices (s : State) (h : Fin Config.heads) (p : HeadPort) : (s.setHead h p).notices = s.notices := rfl
@[simp] theorem setHead_pending (s : State) (h : Fin Config.heads) (p : HeadPort) : (s.setHead h p).pending = s.pending := rfl
@[simp] theorem setHead_ringIn (s : State) (h : Fin Config.heads) (p : HeadPort) : (s.setHead h p).ringIn = s.ringIn := rfl
@[simp] theorem setHead_slot (s : State) (h : Fin Config.heads) (p : HeadPort) (j : Fin Config.slots) : (s.setHead h p).slot j = s.slot j := rfl
@[simp] theorem setHead_material (s : State) (h : Fin Config.heads) (p : HeadPort) (q : Fin Config.materials) : (s.setHead h p).material q = s.material q := rfl
@[simp] theorem setHead_limit (s : State) (h : Fin Config.heads) (p : HeadPort) (q : Fin Config.limitSets) : (s.setHead h p).limit q = s.limit q := rfl

/-! ## setMaterial -/

@[simp] theorem setMaterial_slots (s : State) (g : Fin Config.materials) (m : Material) : (s.setMaterial g m).slots = s.slots := rfl
@[simp] theorem setMaterial_armQueue (s : State) (g : Fin Config.materials) (m : Material) : (s.setMaterial g m).armQueue = s.armQueue := rfl
@[simp] theorem setMaterial_completion (s : State) (g : Fin Config.materials) (m : Material) : (s.setMaterial g m).completion = s.completion := rfl
@[simp] theorem setMaterial_template (s : State) (g : Fin Config.materials) (m : Material) : (s.setMaterial g m).template = s.template := rfl
@[simp] theorem setMaterial_tracker (s : State) (g : Fin Config.materials) (m : Material) : (s.setMaterial g m).tracker = s.tracker := rfl
@[simp] theorem setMaterial_heads (s : State) (g : Fin Config.materials) (m : Material) : (s.setMaterial g m).heads = s.heads := rfl
@[simp] theorem setMaterial_pointer (s : State) (g : Fin Config.materials) (m : Material) : (s.setMaterial g m).pointer = s.pointer := rfl
@[simp] theorem setMaterial_materials (s : State) (g : Fin Config.materials) (m : Material) : (s.setMaterial g m).materials = s.materials.set g m := rfl
@[simp] theorem setMaterial_freeStrips (s : State) (g : Fin Config.materials) (m : Material) : (s.setMaterial g m).freeStrips = s.freeStrips := rfl
@[simp] theorem setMaterial_eviction (s : State) (g : Fin Config.materials) (m : Material) : (s.setMaterial g m).eviction = s.eviction := rfl
@[simp] theorem setMaterial_limits (s : State) (g : Fin Config.materials) (m : Material) : (s.setMaterial g m).limits = s.limits := rfl
@[simp] theorem setMaterial_engine (s : State) (g : Fin Config.materials) (m : Material) : (s.setMaterial g m).engine = s.engine := rfl
@[simp] theorem setMaterial_ring (s : State) (g : Fin Config.materials) (m : Material) : (s.setMaterial g m).ring = s.ring := rfl
@[simp] theorem setMaterial_notices (s : State) (g : Fin Config.materials) (m : Material) : (s.setMaterial g m).notices = s.notices := rfl
@[simp] theorem setMaterial_pending (s : State) (g : Fin Config.materials) (m : Material) : (s.setMaterial g m).pending = s.pending := rfl
@[simp] theorem setMaterial_ringIn (s : State) (g : Fin Config.materials) (m : Material) : (s.setMaterial g m).ringIn = s.ringIn := rfl
@[simp] theorem setMaterial_slot (s : State) (g : Fin Config.materials) (m : Material) (j : Fin Config.slots) : (s.setMaterial g m).slot j = s.slot j := rfl
@[simp] theorem setMaterial_head (s : State) (g : Fin Config.materials) (m : Material) (k : Fin Config.heads) : (s.setMaterial g m).head k = s.head k := rfl
@[simp] theorem setMaterial_limit (s : State) (g : Fin Config.materials) (m : Material) (q : Fin Config.limitSets) : (s.setMaterial g m).limit q = s.limit q := rfl

/-! ## setLimit -/

@[simp] theorem setLimit_slots (s : State) (l : Fin Config.limitSets) (v : LimitSet) : (s.setLimit l v).slots = s.slots := rfl
@[simp] theorem setLimit_armQueue (s : State) (l : Fin Config.limitSets) (v : LimitSet) : (s.setLimit l v).armQueue = s.armQueue := rfl
@[simp] theorem setLimit_completion (s : State) (l : Fin Config.limitSets) (v : LimitSet) : (s.setLimit l v).completion = s.completion := rfl
@[simp] theorem setLimit_template (s : State) (l : Fin Config.limitSets) (v : LimitSet) : (s.setLimit l v).template = s.template := rfl
@[simp] theorem setLimit_tracker (s : State) (l : Fin Config.limitSets) (v : LimitSet) : (s.setLimit l v).tracker = s.tracker := rfl
@[simp] theorem setLimit_heads (s : State) (l : Fin Config.limitSets) (v : LimitSet) : (s.setLimit l v).heads = s.heads := rfl
@[simp] theorem setLimit_pointer (s : State) (l : Fin Config.limitSets) (v : LimitSet) : (s.setLimit l v).pointer = s.pointer := rfl
@[simp] theorem setLimit_materials (s : State) (l : Fin Config.limitSets) (v : LimitSet) : (s.setLimit l v).materials = s.materials := rfl
@[simp] theorem setLimit_freeStrips (s : State) (l : Fin Config.limitSets) (v : LimitSet) : (s.setLimit l v).freeStrips = s.freeStrips := rfl
@[simp] theorem setLimit_eviction (s : State) (l : Fin Config.limitSets) (v : LimitSet) : (s.setLimit l v).eviction = s.eviction := rfl
@[simp] theorem setLimit_limits (s : State) (l : Fin Config.limitSets) (v : LimitSet) : (s.setLimit l v).limits = s.limits.set l v := rfl
@[simp] theorem setLimit_engine (s : State) (l : Fin Config.limitSets) (v : LimitSet) : (s.setLimit l v).engine = s.engine := rfl
@[simp] theorem setLimit_ring (s : State) (l : Fin Config.limitSets) (v : LimitSet) : (s.setLimit l v).ring = s.ring := rfl
@[simp] theorem setLimit_notices (s : State) (l : Fin Config.limitSets) (v : LimitSet) : (s.setLimit l v).notices = s.notices := rfl
@[simp] theorem setLimit_pending (s : State) (l : Fin Config.limitSets) (v : LimitSet) : (s.setLimit l v).pending = s.pending := rfl
@[simp] theorem setLimit_ringIn (s : State) (l : Fin Config.limitSets) (v : LimitSet) : (s.setLimit l v).ringIn = s.ringIn := rfl
@[simp] theorem setLimit_slot (s : State) (l : Fin Config.limitSets) (v : LimitSet) (j : Fin Config.slots) : (s.setLimit l v).slot j = s.slot j := rfl
@[simp] theorem setLimit_head (s : State) (l : Fin Config.limitSets) (v : LimitSet) (k : Fin Config.heads) : (s.setLimit l v).head k = s.head k := rfl
@[simp] theorem setLimit_material (s : State) (l : Fin Config.limitSets) (v : LimitSet) (q : Fin Config.materials) : (s.setLimit l v).material q = s.material q := rfl

/-! ## setTracker -/

@[simp] theorem setTracker_slots (s : State) (t : Tracker) : (s.setTracker t).slots = s.slots := rfl
@[simp] theorem setTracker_armQueue (s : State) (t : Tracker) : (s.setTracker t).armQueue = s.armQueue := rfl
@[simp] theorem setTracker_completion (s : State) (t : Tracker) : (s.setTracker t).completion = s.completion := rfl
@[simp] theorem setTracker_template (s : State) (t : Tracker) : (s.setTracker t).template = s.template := rfl
@[simp] theorem setTracker_tracker (s : State) (t : Tracker) : (s.setTracker t).tracker = t := rfl
@[simp] theorem setTracker_heads (s : State) (t : Tracker) : (s.setTracker t).heads = s.heads := rfl
@[simp] theorem setTracker_pointer (s : State) (t : Tracker) : (s.setTracker t).pointer = s.pointer := rfl
@[simp] theorem setTracker_materials (s : State) (t : Tracker) : (s.setTracker t).materials = s.materials := rfl
@[simp] theorem setTracker_freeStrips (s : State) (t : Tracker) : (s.setTracker t).freeStrips = s.freeStrips := rfl
@[simp] theorem setTracker_eviction (s : State) (t : Tracker) : (s.setTracker t).eviction = s.eviction := rfl
@[simp] theorem setTracker_limits (s : State) (t : Tracker) : (s.setTracker t).limits = s.limits := rfl
@[simp] theorem setTracker_engine (s : State) (t : Tracker) : (s.setTracker t).engine = s.engine := rfl
@[simp] theorem setTracker_ring (s : State) (t : Tracker) : (s.setTracker t).ring = s.ring := rfl
@[simp] theorem setTracker_notices (s : State) (t : Tracker) : (s.setTracker t).notices = s.notices := rfl
@[simp] theorem setTracker_pending (s : State) (t : Tracker) : (s.setTracker t).pending = s.pending := rfl
@[simp] theorem setTracker_ringIn (s : State) (t : Tracker) : (s.setTracker t).ringIn = s.ringIn := rfl
@[simp] theorem setTracker_slot (s : State) (t : Tracker) (j : Fin Config.slots) : (s.setTracker t).slot j = s.slot j := rfl
@[simp] theorem setTracker_head (s : State) (t : Tracker) (k : Fin Config.heads) : (s.setTracker t).head k = s.head k := rfl
@[simp] theorem setTracker_material (s : State) (t : Tracker) (q : Fin Config.materials) : (s.setTracker t).material q = s.material q := rfl
@[simp] theorem setTracker_limit (s : State) (t : Tracker) (q : Fin Config.limitSets) : (s.setTracker t).limit q = s.limit q := rfl

/-! ## setRing -/

@[simp] theorem setRing_slots (s : State) (r : RingPort) : (s.setRing r).slots = s.slots := rfl
@[simp] theorem setRing_armQueue (s : State) (r : RingPort) : (s.setRing r).armQueue = s.armQueue := rfl
@[simp] theorem setRing_completion (s : State) (r : RingPort) : (s.setRing r).completion = s.completion := rfl
@[simp] theorem setRing_template (s : State) (r : RingPort) : (s.setRing r).template = s.template := rfl
@[simp] theorem setRing_tracker (s : State) (r : RingPort) : (s.setRing r).tracker = s.tracker := rfl
@[simp] theorem setRing_heads (s : State) (r : RingPort) : (s.setRing r).heads = s.heads := rfl
@[simp] theorem setRing_pointer (s : State) (r : RingPort) : (s.setRing r).pointer = s.pointer := rfl
@[simp] theorem setRing_materials (s : State) (r : RingPort) : (s.setRing r).materials = s.materials := rfl
@[simp] theorem setRing_freeStrips (s : State) (r : RingPort) : (s.setRing r).freeStrips = s.freeStrips := rfl
@[simp] theorem setRing_eviction (s : State) (r : RingPort) : (s.setRing r).eviction = s.eviction := rfl
@[simp] theorem setRing_limits (s : State) (r : RingPort) : (s.setRing r).limits = s.limits := rfl
@[simp] theorem setRing_engine (s : State) (r : RingPort) : (s.setRing r).engine = s.engine := rfl
@[simp] theorem setRing_ring (s : State) (r : RingPort) : (s.setRing r).ring = r := rfl
@[simp] theorem setRing_notices (s : State) (r : RingPort) : (s.setRing r).notices = s.notices := rfl
@[simp] theorem setRing_pending (s : State) (r : RingPort) : (s.setRing r).pending = s.pending := rfl
@[simp] theorem setRing_ringIn (s : State) (r : RingPort) : (s.setRing r).ringIn = s.ringIn := rfl
@[simp] theorem setRing_slot (s : State) (r : RingPort) (j : Fin Config.slots) : (s.setRing r).slot j = s.slot j := rfl
@[simp] theorem setRing_head (s : State) (r : RingPort) (k : Fin Config.heads) : (s.setRing r).head k = s.head k := rfl
@[simp] theorem setRing_material (s : State) (r : RingPort) (q : Fin Config.materials) : (s.setRing r).material q = s.material q := rfl
@[simp] theorem setRing_limit (s : State) (r : RingPort) (q : Fin Config.limitSets) : (s.setRing r).limit q = s.limit q := rfl

/-! ## setNotices -/

@[simp] theorem setNotices_slots (s : State) (n : NoticeUnit) : (s.setNotices n).slots = s.slots := rfl
@[simp] theorem setNotices_armQueue (s : State) (n : NoticeUnit) : (s.setNotices n).armQueue = s.armQueue := rfl
@[simp] theorem setNotices_completion (s : State) (n : NoticeUnit) : (s.setNotices n).completion = s.completion := rfl
@[simp] theorem setNotices_template (s : State) (n : NoticeUnit) : (s.setNotices n).template = s.template := rfl
@[simp] theorem setNotices_tracker (s : State) (n : NoticeUnit) : (s.setNotices n).tracker = s.tracker := rfl
@[simp] theorem setNotices_heads (s : State) (n : NoticeUnit) : (s.setNotices n).heads = s.heads := rfl
@[simp] theorem setNotices_pointer (s : State) (n : NoticeUnit) : (s.setNotices n).pointer = s.pointer := rfl
@[simp] theorem setNotices_materials (s : State) (n : NoticeUnit) : (s.setNotices n).materials = s.materials := rfl
@[simp] theorem setNotices_freeStrips (s : State) (n : NoticeUnit) : (s.setNotices n).freeStrips = s.freeStrips := rfl
@[simp] theorem setNotices_eviction (s : State) (n : NoticeUnit) : (s.setNotices n).eviction = s.eviction := rfl
@[simp] theorem setNotices_limits (s : State) (n : NoticeUnit) : (s.setNotices n).limits = s.limits := rfl
@[simp] theorem setNotices_engine (s : State) (n : NoticeUnit) : (s.setNotices n).engine = s.engine := rfl
@[simp] theorem setNotices_ring (s : State) (n : NoticeUnit) : (s.setNotices n).ring = s.ring := rfl
@[simp] theorem setNotices_notices (s : State) (n : NoticeUnit) : (s.setNotices n).notices = n := rfl
@[simp] theorem setNotices_pending (s : State) (n : NoticeUnit) : (s.setNotices n).pending = s.pending := rfl
@[simp] theorem setNotices_ringIn (s : State) (n : NoticeUnit) : (s.setNotices n).ringIn = s.ringIn := rfl
@[simp] theorem setNotices_slot (s : State) (n : NoticeUnit) (j : Fin Config.slots) : (s.setNotices n).slot j = s.slot j := rfl
@[simp] theorem setNotices_head (s : State) (n : NoticeUnit) (k : Fin Config.heads) : (s.setNotices n).head k = s.head k := rfl
@[simp] theorem setNotices_material (s : State) (n : NoticeUnit) (q : Fin Config.materials) : (s.setNotices n).material q = s.material q := rfl
@[simp] theorem setNotices_limit (s : State) (n : NoticeUnit) (q : Fin Config.limitSets) : (s.setNotices n).limit q = s.limit q := rfl

/-! ## Reading what was written -/

theorem setSlot_slot (s : State) (i j : Fin Config.slots) (r : Record) :
    (s.setSlot i r).slot j = if i = j then r else s.slot j := by
  simp [State.setSlot, State.slot, Vector.getElem_set, Fin.ext_iff]

@[simp] theorem setSlot_slot_same (s : State) (i : Fin Config.slots) (r : Record) : (s.setSlot i r).slot i = r := by
  simp [setSlot_slot]

theorem setSlot_slot_other (s : State) (i j : Fin Config.slots) (r : Record) (other : i ≠ j) :
    (s.setSlot i r).slot j = s.slot j := by
  simp [setSlot_slot, other]

theorem setHead_head (s : State) (h k : Fin Config.heads) (p : HeadPort) :
    (s.setHead h p).head k = if h = k then p else s.head k := by
  simp [State.setHead, State.head, Vector.getElem_set, Fin.ext_iff]

@[simp] theorem setHead_head_same (s : State) (h : Fin Config.heads) (p : HeadPort) : (s.setHead h p).head h = p := by
  simp [setHead_head]

theorem setHead_head_other (s : State) (h k : Fin Config.heads) (p : HeadPort) (other : h ≠ k) :
    (s.setHead h p).head k = s.head k := by
  simp [setHead_head, other]

theorem setMaterial_material (s : State) (g q : Fin Config.materials) (m : Material) :
    (s.setMaterial g m).material q = if g = q then m else s.material q := by
  simp [State.setMaterial, State.material, Vector.getElem_set, Fin.ext_iff]

@[simp] theorem setMaterial_material_same (s : State) (g : Fin Config.materials) (m : Material) : (s.setMaterial g m).material g = m := by
  simp [setMaterial_material]

theorem setMaterial_material_other (s : State) (g q : Fin Config.materials) (m : Material) (other : g ≠ q) :
    (s.setMaterial g m).material q = s.material q := by
  simp [setMaterial_material, other]

theorem setLimit_limit (s : State) (l q : Fin Config.limitSets) (v : LimitSet) :
    (s.setLimit l v).limit q = if l = q then v else s.limit q := by
  simp [State.setLimit, State.limit, Vector.getElem_set, Fin.ext_iff]

@[simp] theorem setLimit_limit_same (s : State) (l : Fin Config.limitSets) (v : LimitSet) : (s.setLimit l v).limit l = v := by
  simp [setLimit_limit]

theorem setLimit_limit_other (s : State) (l q : Fin Config.limitSets) (v : LimitSet) (other : l ≠ q) :
    (s.setLimit l v).limit q = s.limit q := by
  simp [setLimit_limit, other]

/-! ## modSlot -/

@[simp] theorem modSlot_armQueue (s : State) (i : Fin Config.slots) (f : Record → Record) : (s.modSlot i f).armQueue = s.armQueue := rfl
@[simp] theorem modSlot_completion (s : State) (i : Fin Config.slots) (f : Record → Record) : (s.modSlot i f).completion = s.completion := rfl
@[simp] theorem modSlot_template (s : State) (i : Fin Config.slots) (f : Record → Record) : (s.modSlot i f).template = s.template := rfl
@[simp] theorem modSlot_tracker (s : State) (i : Fin Config.slots) (f : Record → Record) : (s.modSlot i f).tracker = s.tracker := rfl
@[simp] theorem modSlot_heads (s : State) (i : Fin Config.slots) (f : Record → Record) : (s.modSlot i f).heads = s.heads := rfl
@[simp] theorem modSlot_pointer (s : State) (i : Fin Config.slots) (f : Record → Record) : (s.modSlot i f).pointer = s.pointer := rfl
@[simp] theorem modSlot_materials (s : State) (i : Fin Config.slots) (f : Record → Record) : (s.modSlot i f).materials = s.materials := rfl
@[simp] theorem modSlot_freeStrips (s : State) (i : Fin Config.slots) (f : Record → Record) : (s.modSlot i f).freeStrips = s.freeStrips := rfl
@[simp] theorem modSlot_eviction (s : State) (i : Fin Config.slots) (f : Record → Record) : (s.modSlot i f).eviction = s.eviction := rfl
@[simp] theorem modSlot_limits (s : State) (i : Fin Config.slots) (f : Record → Record) : (s.modSlot i f).limits = s.limits := rfl
@[simp] theorem modSlot_engine (s : State) (i : Fin Config.slots) (f : Record → Record) : (s.modSlot i f).engine = s.engine := rfl
@[simp] theorem modSlot_ring (s : State) (i : Fin Config.slots) (f : Record → Record) : (s.modSlot i f).ring = s.ring := rfl
@[simp] theorem modSlot_notices (s : State) (i : Fin Config.slots) (f : Record → Record) : (s.modSlot i f).notices = s.notices := rfl
@[simp] theorem modSlot_pending (s : State) (i : Fin Config.slots) (f : Record → Record) : (s.modSlot i f).pending = s.pending := rfl
@[simp] theorem modSlot_ringIn (s : State) (i : Fin Config.slots) (f : Record → Record) : (s.modSlot i f).ringIn = s.ringIn := rfl
@[simp] theorem modSlot_head (s : State) (i : Fin Config.slots) (f : Record → Record) (k : Fin Config.heads) : (s.modSlot i f).head k = s.head k := rfl
@[simp] theorem modSlot_material (s : State) (i : Fin Config.slots) (f : Record → Record) (q : Fin Config.materials) : (s.modSlot i f).material q = s.material q := rfl
@[simp] theorem modSlot_limit (s : State) (i : Fin Config.slots) (f : Record → Record) (q : Fin Config.limitSets) : (s.modSlot i f).limit q = s.limit q := rfl

theorem modSlot_slot (s : State) (i j : Fin Config.slots) (f : Record → Record) :
    (s.modSlot i f).slot j = if i = j then f (s.slot i) else s.slot j := setSlot_slot s i j _

@[simp] theorem modSlot_slot_same (s : State) (i : Fin Config.slots) (f : Record → Record) :
    (s.modSlot i f).slot i = f (s.slot i) := by
  simp [modSlot_slot]

theorem modSlot_slot_other (s : State) (i j : Fin Config.slots) (f : Record → Record) (other : i ≠ j) :
    (s.modSlot i f).slot j = s.slot j := by
  simp [modSlot_slot, other]

/-! ## RingPort.enter and RingPort.count -/

@[simp] theorem enter_rx (r : RingPort) (st : RingState) : (r.enter st).rx = r.rx := rfl
@[simp] theorem enter_part (r : RingPort) (st : RingState) : (r.enter st).part = r.part := rfl
@[simp] theorem enter_strap (r : RingPort) (st : RingState) : (r.enter st).strap = r.strap := rfl
@[simp] theorem enter_permit (r : RingPort) (st : RingState) : (r.enter st).permit = r.permit := rfl
@[simp] theorem enter_replies (r : RingPort) (st : RingState) : (r.enter st).replies = r.replies := rfl
@[simp] theorem enter_stations (r : RingPort) (st : RingState) : (r.enter st).stations = r.stations := rfl
@[simp] theorem enter_counters (r : RingPort) (st : RingState) : (r.enter st).counters = r.counters := rfl
@[simp] theorem enter_phase (r : RingPort) (st : RingState) : (r.enter st).phase = r.phase := rfl
@[simp] theorem enter_sentInTurn (r : RingPort) (st : RingState) : (r.enter st).sentInTurn = r.sentInTurn := rfl
@[simp] theorem enter_leaveMarked (r : RingPort) (st : RingState) : (r.enter st).leaveMarked = r.leaveMarked := rfl
@[simp] theorem enter_toDrive (r : RingPort) (st : RingState) : (r.enter st).toDrive = r.toDrive := rfl
@[simp] theorem enter_held (r : RingPort) (st : RingState) : (r.enter st).held = r.held := rfl
@[simp] theorem enter_ringOut (r : RingPort) (st : RingState) :
    (r.enter st).ringOut = if st.bypassed then none else r.ringOut := rfl
@[simp] theorem enter_state (r : RingPort) (st : RingState) : (r.enter st).state = st := rfl
@[simp] theorem enter_bypass (r : RingPort) (st : RingState) :
    (r.enter st).bypass = st.bypassed := rfl
@[simp] theorem ringCount_state (r : RingPort) (c : RingCounter) : (r.count c).state = r.state := rfl
@[simp] theorem ringCount_bypass (r : RingPort) (c : RingCounter) : (r.count c).bypass = r.bypass := rfl
@[simp] theorem ringCount_rx (r : RingPort) (c : RingCounter) : (r.count c).rx = r.rx := rfl
@[simp] theorem ringCount_part (r : RingPort) (c : RingCounter) : (r.count c).part = r.part := rfl
@[simp] theorem ringCount_strap (r : RingPort) (c : RingCounter) : (r.count c).strap = r.strap := rfl
@[simp] theorem ringCount_permit (r : RingPort) (c : RingCounter) : (r.count c).permit = r.permit := rfl
@[simp] theorem ringCount_replies (r : RingPort) (c : RingCounter) : (r.count c).replies = r.replies := rfl
@[simp] theorem ringCount_stations (r : RingPort) (c : RingCounter) : (r.count c).stations = r.stations := rfl
@[simp] theorem ringCount_phase (r : RingPort) (c : RingCounter) : (r.count c).phase = r.phase := rfl
@[simp] theorem ringCount_sentInTurn (r : RingPort) (c : RingCounter) : (r.count c).sentInTurn = r.sentInTurn := rfl
@[simp] theorem ringCount_leaveMarked (r : RingPort) (c : RingCounter) : (r.count c).leaveMarked = r.leaveMarked := rfl
@[simp] theorem ringCount_toDrive (r : RingPort) (c : RingCounter) : (r.count c).toDrive = r.toDrive := rfl
@[simp] theorem ringCount_held (r : RingPort) (c : RingCounter) : (r.count c).held = r.held := rfl
@[simp] theorem ringCount_ringOut (r : RingPort) (c : RingCounter) : (r.count c).ringOut = r.ringOut := rfl

/-! ## Tracker.settle and Tracker.endContext -/

@[simp] theorem trackerSettle_raw (t : Tracker) : t.settle.raw = t.raw := rfl
@[simp] theorem trackerSettle_entry (t : Tracker) : t.settle.entry = t.entry := rfl
@[simp] theorem trackerSettle_candidate (t : Tracker) : t.settle.candidate = t.candidate := rfl
@[simp] theorem trackerSettle_advance (t : Tracker) : t.settle.advance = t.advance := rfl
@[simp] theorem trackerSettle_spinCount (t : Tracker) : t.settle.spinCount = t.spinCount := rfl
@[simp] theorem trackerSettle_spin (t : Tracker) : t.settle.spin = t.spin := rfl
@[simp] theorem trackerSettle_spinTimer (t : Tracker) : t.settle.spinTimer = t.spinTimer := rfl
@[simp] theorem trackerSettle_slips (t : Tracker) : t.settle.slips = t.slips := rfl
@[simp] theorem trackerSettle_contexts (t : Tracker) : t.settle.contexts = t.contexts := rfl
@[simp] theorem trackerSettle_blind (t : Tracker) : t.settle.blind = t.blind := rfl
@[simp] theorem trackerSettle_settings (t : Tracker) : t.settle.settings = t.settings := rfl
@[simp] theorem endContext_raw (t : Tracker) (i : Fin Config.slots) : (t.endContext i).raw = t.raw := rfl
@[simp] theorem endContext_entry (t : Tracker) (i : Fin Config.slots) : (t.endContext i).entry = t.entry := rfl
@[simp] theorem endContext_candidate (t : Tracker) (i : Fin Config.slots) : (t.endContext i).candidate = t.candidate := rfl
@[simp] theorem endContext_advance (t : Tracker) (i : Fin Config.slots) : (t.endContext i).advance = t.advance := rfl
@[simp] theorem endContext_spinCount (t : Tracker) (i : Fin Config.slots) : (t.endContext i).spinCount = t.spinCount := rfl
@[simp] theorem endContext_spin (t : Tracker) (i : Fin Config.slots) : (t.endContext i).spin = t.spin := rfl
@[simp] theorem endContext_spinTimer (t : Tracker) (i : Fin Config.slots) : (t.endContext i).spinTimer = t.spinTimer := rfl
@[simp] theorem endContext_slips (t : Tracker) (i : Fin Config.slots) : (t.endContext i).slips = t.slips := rfl
@[simp] theorem endContext_blind (t : Tracker) (i : Fin Config.slots) : (t.endContext i).blind = t.blind := rfl
@[simp] theorem endContext_settings (t : Tracker) (i : Fin Config.slots) : (t.endContext i).settings = t.settings := rfl
@[simp] theorem endContext_contexts (t : Tracker) (i : Fin Config.slots) :
    (t.endContext i).contexts = t.contexts.filter fun c => decide (c.slot ≠ i) := rfl

/-! ## HeadPort.settle and HeadPort.count -/

@[simp] theorem headSettle_state (p : HeadPort) : p.settle.state = p.state := rfl
@[simp] theorem headSettle_settings (p : HeadPort) : p.settle.settings = p.settings := rfl
@[simp] theorem headSettle_queue (p : HeadPort) : p.settle.queue = p.queue := rfl
@[simp] theorem headSettle_expected (p : HeadPort) : p.settle.expected = p.expected := rfl
@[simp] theorem headSettle_line (p : HeadPort) : p.settle.line = p.line := rfl
@[simp] theorem headSettle_silenceTimer (p : HeadPort) : p.settle.silenceTimer = p.silenceTimer := rfl
@[simp] theorem headSettle_counters (p : HeadPort) : p.settle.counters = p.counters := rfl
@[simp] theorem headCount_state (p : HeadPort) (c : HeadCounter) (n : Nat) : (p.count c n).state = p.state := rfl
@[simp] theorem headCount_settings (p : HeadPort) (c : HeadCounter) (n : Nat) : (p.count c n).settings = p.settings := rfl
@[simp] theorem headCount_queue (p : HeadPort) (c : HeadCounter) (n : Nat) : (p.count c n).queue = p.queue := rfl
@[simp] theorem headCount_expected (p : HeadPort) (c : HeadCounter) (n : Nat) : (p.count c n).expected = p.expected := rfl
@[simp] theorem headCount_line (p : HeadPort) (c : HeadCounter) (n : Nat) : (p.count c n).line = p.line := rfl
@[simp] theorem headCount_silenceTimer (p : HeadPort) (c : HeadCounter) (n : Nat) : (p.count c n).silenceTimer = p.silenceTimer := rfl
@[simp] theorem headCount_ready (p : HeadPort) (c : HeadCounter) (n : Nat) : (p.count c n).ready = p.ready := rfl

/-! ## Record.flag -/

@[simp] theorem flag_generation (r : Record) (k : HistoryFlag) : (r.flag k).generation = r.generation := rfl
@[simp] theorem flag_state (r : Record) (k : HistoryFlag) : (r.flag k).state = r.state := rfl
@[simp] theorem flag_rejudging (r : Record) (k : HistoryFlag) : (r.flag k).rejudging = r.rejudging := rfl
@[simp] theorem flag_retirePending (r : Record) (k : HistoryFlag) : (r.flag k).retirePending = r.retirePending := rfl
@[simp] theorem flag_shellId (r : Record) (k : HistoryFlag) : (r.flag k).shellId = r.shellId := rfl
@[simp] theorem flag_shell (r : Record) (k : HistoryFlag) : (r.flag k).shell = r.shell := rfl
@[simp] theorem flag_length (r : Record) (k : HistoryFlag) : (r.flag k).length = r.length := rfl
@[simp] theorem flag_lastTemp (r : Record) (k : HistoryFlag) : (r.flag k).lastTemp = r.lastTemp := rfl
@[simp] theorem flag_strips (r : Record) (k : HistoryFlag) : (r.flag k).strips = r.strips := rfl
@[simp] theorem flag_zones (r : Record) (k : HistoryFlag) : (r.flag k).zones = r.zones := rfl
@[simp] theorem flag_claims (r : Record) (k : HistoryFlag) : (r.flag k).claims = r.claims := rfl
@[simp] theorem flag_verdict (r : Record) (k : HistoryFlag) : (r.flag k).verdict = r.verdict := rfl
@[simp] theorem flag_derived (r : Record) (k : HistoryFlag) : (r.flag k).derived = r.derived := rfl
@[simp] theorem flag_accepted (r : Record) (k : HistoryFlag) : (r.flag k).accepted = r.accepted := rfl
@[simp] theorem flag_rejected (r : Record) (k : HistoryFlag) : (r.flag k).rejected = r.rejected := rfl
@[simp] theorem flag_late (r : Record) (k : HistoryFlag) : (r.flag k).late = r.late := rfl

end Sys2Proof.Laws
end

