-- ==== Sys2Proof/Laws/Ops.lean ====
section
/-! SUPPORT. What each shared operation does, said once: notices, lines, freeing, eviction, allocation, and the receipt, admission and answering of a request. -/

namespace Sys2Proof.Laws

open Sys2Proof.Machine

/-! ## Notices -/

/-- A raise changes nothing but the notice unit. -/
theorem raise_eq_setNotices (s : State) (k : NoticeKind) (subject : Subject) :
    s.raise k subject = s.setNotices (s.raise k subject).notices := rfl

@[simp] theorem raise_slot (s : State) (k : NoticeKind) (subject : Subject) (i : Fin Config.slots) :
    (s.raise k subject).slot i = s.slot i := rfl
@[simp] theorem raise_head (s : State) (k : NoticeKind) (subject : Subject) (h : Fin Config.heads) :
    (s.raise k subject).head h = s.head h := rfl
@[simp] theorem raise_material (s : State) (k : NoticeKind) (subject : Subject) (g : Fin Config.materials) :
    (s.raise k subject).material g = s.material g := rfl
@[simp] theorem raise_limit (s : State) (k : NoticeKind) (subject : Subject) (l : Fin Config.limitSets) :
    (s.raise k subject).limit l = s.limit l := rfl
@[simp] theorem raise_slots (s : State) (k : NoticeKind) (subject : Subject) : (s.raise k subject).slots = s.slots := rfl
@[simp] theorem raise_tracker (s : State) (k : NoticeKind) (subject : Subject) :
    (s.raise k subject).tracker = s.tracker := rfl
@[simp] theorem raise_ring (s : State) (k : NoticeKind) (subject : Subject) : (s.raise k subject).ring = s.ring := rfl
@[simp] theorem raise_armQueue (s : State) (k : NoticeKind) (subject : Subject) :
    (s.raise k subject).armQueue = s.armQueue := rfl
@[simp] theorem raise_completion (s : State) (k : NoticeKind) (subject : Subject) :
    (s.raise k subject).completion = s.completion := rfl
@[simp] theorem raise_freeStrips (s : State) (k : NoticeKind) (subject : Subject) :
    (s.raise k subject).freeStrips = s.freeStrips := rfl
@[simp] theorem raise_engine (s : State) (k : NoticeKind) (subject : Subject) :
    (s.raise k subject).engine = s.engine := rfl
@[simp] theorem raise_eviction (s : State) (k : NoticeKind) (subject : Subject) :
    (s.raise k subject).eviction = s.eviction := rfl
@[simp] theorem raise_pending (s : State) (k : NoticeKind) (subject : Subject) :
    (s.raise k subject).pending = s.pending := rfl

/-- The raised kind's entry after a raise; the other entries stay. -/
theorem raise_entry (s : State) (k : NoticeKind) (subject : Subject) (j : Fin 11) :
    (s.raise k subject).notices.entries[j] =
      if k.idx = j then (s.notices.entries[k.idx]).raised subject else s.notices.entries[j] := by
  simp [State.raise, State.setNotices, NoticeUnit.settle, Vector.getElem_set, Fin.ext_iff]

/-- The attention line follows the pending flags and the mask after a raise. -/
theorem raise_settled (s : State) (k : NoticeKind) (subject : Subject) :
    (s.raise k subject).notices.settle = (s.raise k subject).notices := rfl

/-! ## Lines that follow the state -/

theorem noticeSettle_twice (n : NoticeUnit) : n.settle.settle = n.settle := rfl

theorem headSettle_twice (p : HeadPort) : p.settle.settle = p.settle := rfl

theorem trackerSettle_twice (t : Tracker) : t.settle.settle = t.settle := rfl

/-! ## Freeing -/

/-- The freed slot holds the FREE record of the next generation. -/
@[simp] theorem freeRecord_slot_same (s : State) (i : Fin Config.slots) :
    (s.freeRecord i).slot i = Record.free ((s.slot i).generation + 1) := by
  simp [State.freeRecord]

/-- Freeing touches no other slot. -/
theorem freeRecord_slot_other (s : State) (i j : Fin Config.slots) (other : i ≠ j) :
    (s.freeRecord i).slot j = s.slot j := by
  rw [State.freeRecord, setSlot_slot_other _ _ _ _ other]
  rfl

@[simp] theorem freeRecord_armQueue (s : State) (i : Fin Config.slots) :
    (s.freeRecord i).armQueue = s.armQueue.filter fun j => decide (j ≠ i) := rfl
@[simp] theorem freeRecord_completion (s : State) (i : Fin Config.slots) :
    (s.freeRecord i).completion = s.completion.filter fun j => decide (j ≠ i) := rfl
@[simp] theorem freeRecord_tracker (s : State) (i : Fin Config.slots) :
    (s.freeRecord i).tracker = s.tracker.dropContext i := rfl
@[simp] theorem freeRecord_freeStrips (s : State) (i : Fin Config.slots) :
    (s.freeRecord i).freeStrips = s.freeStrips + (s.slot i).strips.length := rfl
@[simp] theorem freeRecord_ring (s : State) (i : Fin Config.slots) : (s.freeRecord i).ring = s.ring := rfl
@[simp] theorem freeRecord_notices (s : State) (i : Fin Config.slots) : (s.freeRecord i).notices = s.notices := rfl
@[simp] theorem freeRecord_heads (s : State) (i : Fin Config.slots) : (s.freeRecord i).heads = s.heads := rfl
@[simp] theorem freeRecord_head (s : State) (i : Fin Config.slots) (h : Fin Config.heads) :
    (s.freeRecord i).head h = s.head h := rfl
@[simp] theorem freeRecord_limit (s : State) (i : Fin Config.slots) (l : Fin Config.limitSets) :
    (s.freeRecord i).limit l = s.limit l := rfl
@[simp] theorem freeRecord_eviction (s : State) (i : Fin Config.slots) : (s.freeRecord i).eviction = s.eviction := rfl
@[simp] theorem freeRecord_pending (s : State) (i : Fin Config.slots) : (s.freeRecord i).pending = s.pending := rfl
@[simp] theorem freeRecord_engine (s : State) (i : Fin Config.slots) :
    (s.freeRecord i).engine = s.engine.filter fun run => decide (run.slot ≠ i) := rfl

/-! ## Allocation -/

/-- The lowest FREE slot is FREE. -/
theorem lowestFree_free {s : State} {i : Fin Config.slots} (found : s.lowestFree = some i) :
    (s.slot i).state = .free := by
  have h := List.find?_some found
  simpa using h

/-- With no FREE slot found, no slot is FREE. -/
theorem lowestFree_none {s : State} (none : s.lowestFree = none) (i : Fin Config.slots) :
    (s.slot i).state ≠ .free := by
  have h := List.find?_eq_none.mp none i (List.mem_finRange i)
  simpa using h

/-- An evicted record stood on the completion order list, not REJUDGING and without claims; the state after is its freeing and its notice. -/
theorem evict_some {s t : State} (evicted : s.evict = some t) :
    ∃ i ∈ s.completion, (s.slot i).rejudging = false ∧ (s.slot i).claims = [] ∧
      t = (s.freeRecord i).raise .evicted (s.subjectOf i) := by
  unfold State.evict at evicted
  split at evicted
  · exact absurd evicted (by simp)
  · rename_i i found
    refine ⟨i, List.mem_of_find?_eq_some found, ?_, ?_, (Option.some.inj evicted).symm⟩
    · have h := List.find?_some found
      simp only [State.evictable, Bool.and_eq_true, Bool.not_eq_true'] at h
      exact h.1
    · have h := List.find?_some found
      simp only [State.evictable, Bool.and_eq_true, List.isEmpty_iff] at h
      exact h.2

/-- An allocated slot is FREE in the state that the allocation leaves. -/
theorem allocSlot_free {s t : State} {i : Fin Config.slots} (taken : s.allocSlot = some (i, t)) :
    (t.slot i).state = .free := by
  unfold State.allocSlot at taken
  split at taken
  · rename_i j found
    simp only [Option.some.injEq, Prod.mk.injEq] at taken
    obtain ⟨rfl, rfl⟩ := taken
    exact lowestFree_free found
  · split at taken
    · split at taken
      · rename_i s1 _
        simp only [Option.map_eq_some_iff, Prod.mk.injEq] at taken
        obtain ⟨j, found, rfl, rfl⟩ := taken
        exact lowestFree_free found
      · exact absurd taken (by simp)
    · exact absurd taken (by simp)

/-- A taken strip is one fewer free, and one more in the record. -/
theorem takeStrip_slot_same (s : State) (i : Fin Config.slots) :
    (s.takeStrip i).slot i = { s.slot i with strips := (s.slot i).strips ++ [newStrip] } := by
  rw [State.takeStrip, modSlot_slot_same]
  rfl

@[simp] theorem takeStrip_freeStrips (s : State) (i : Fin Config.slots) :
    (s.takeStrip i).freeStrips = s.freeStrips - 1 := rfl
@[simp] theorem takeStrip_ring (s : State) (i : Fin Config.slots) : (s.takeStrip i).ring = s.ring := rfl
@[simp] theorem takeStrip_completion (s : State) (i : Fin Config.slots) :
    (s.takeStrip i).completion = s.completion := rfl

/-- An allocation of strips asks for one at a time: each seeks a free strip, evicting as it may, and takes it; the first that finds none ends it. -/
theorem allocStrips_succ (n : Nat) (i : Fin Config.slots) (s : State) : State.allocStrips (n + 1) i s =
    if s.seekStrip.freeStrips = 0 then (s.seekStrip, false) else State.allocStrips n i (s.seekStrip.takeStrip i) := rfl

/-! ## Octets and bits -/

/-- Eight bits are sent for each octet. -/
theorem bitsOf_length (octets : List Byte) : (bitsOf octets).length = 8 * octets.length := by
  induction octets with
  | nil => rfl
  | cons b rest ih => simp only [bitsOf, List.flatMap_cons, List.length_append, octetBits] at ih ⊢; simp [ih]; omega

/-- The octets of bits that were sent for octets are those octets. -/
theorem octetsOf_bitsOf : ∀ octets : List Byte, octetsOf (bitsOf octets) = octets
  | [] => rfl
  | b :: rest => by
    have octet : ∀ b : Byte, octetOfBits (b.getLsbD 0) (b.getLsbD 1) (b.getLsbD 2) (b.getLsbD 3) (b.getLsbD 4)
      (b.getLsbD 5) (b.getLsbD 6) (b.getLsbD 7) = b := by decide +kernel
    have ih := octetsOf_bitsOf rest
    simp only [bitsOf, List.flatMap_cons, octetBits, List.cons_append, List.nil_append, octetsOf] at ih ⊢
    rw [octet, ih]

/-! ## The ring port's receipt of a delimiter -/

@[simp] theorem cut_replies (r : RingPort) : r.cut.replies = r.replies := by unfold RingPort.cut; split <;> rfl
@[simp] theorem cut_stations (r : RingPort) : r.cut.stations = r.stations := by unfold RingPort.cut; split <;> rfl
@[simp] theorem cut_part (r : RingPort) : r.cut.part = r.part := by unfold RingPort.cut; split <;> rfl
@[simp] theorem cut_strap (r : RingPort) : r.cut.strap = r.strap := by unfold RingPort.cut; split <;> rfl
@[simp] theorem cut_state (r : RingPort) : r.cut.state = r.state := by unfold RingPort.cut; split <;> rfl
@[simp] theorem cut_bypass (r : RingPort) : r.cut.bypass = r.bypass := by unfold RingPort.cut; split <;> rfl
@[simp] theorem cut_address (r : RingPort) : r.cut.address = r.address := by simp [RingPort.address]
@[simp] theorem cut_permits (r : RingPort) (source : Byte) (need : Option Right) :
    r.cut.permits source need = r.permits source need := by simp [RingPort.permits]

/-- With no reply being sent, a delimiter cuts nothing. -/
theorem cut_quiet {r : RingPort} (quiet : ¬(r.state = .active ∧ r.phase = .sending)) : r.cut = r := by
  simp [RingPort.cut, quiet]

@[simp] theorem delimiterIn_replies (s : State) : s.delimiterIn.ring.replies = s.ring.replies :=
  cut_replies s.ring
@[simp] theorem delimiterIn_stations (s : State) : s.delimiterIn.ring.stations = s.ring.stations :=
  cut_stations s.ring
@[simp] theorem delimiterIn_state (s : State) : s.delimiterIn.ring.state = s.ring.state := cut_state s.ring
@[simp] theorem delimiterIn_strap (s : State) : s.delimiterIn.ring.strap = s.ring.strap := cut_strap s.ring
@[simp] theorem delimiterIn_address (s : State) : s.delimiterIn.ring.address = s.ring.address := by
  simp [State.delimiterIn, RingPort.address]
@[simp] theorem delimiterIn_permits (s : State) (source : Byte) (need : Option Right) :
    s.delimiterIn.ring.permits source need = s.ring.permits source need := by
  simp [State.delimiterIn, RingPort.permits]

@[simp] theorem delimiterIn_slots (s : State) : s.delimiterIn.slots = s.slots := rfl
@[simp] theorem delimiterIn_armQueue (s : State) : s.delimiterIn.armQueue = s.armQueue := rfl
@[simp] theorem delimiterIn_completion (s : State) : s.delimiterIn.completion = s.completion := rfl
@[simp] theorem delimiterIn_template (s : State) : s.delimiterIn.template = s.template := rfl
@[simp] theorem delimiterIn_tracker (s : State) : s.delimiterIn.tracker = s.tracker := rfl
@[simp] theorem delimiterIn_heads (s : State) : s.delimiterIn.heads = s.heads := rfl
@[simp] theorem delimiterIn_pointer (s : State) : s.delimiterIn.pointer = s.pointer := rfl
@[simp] theorem delimiterIn_materials (s : State) : s.delimiterIn.materials = s.materials := rfl
@[simp] theorem delimiterIn_freeStrips (s : State) : s.delimiterIn.freeStrips = s.freeStrips := rfl
@[simp] theorem delimiterIn_eviction (s : State) : s.delimiterIn.eviction = s.eviction := rfl
@[simp] theorem delimiterIn_limits (s : State) : s.delimiterIn.limits = s.limits := rfl
@[simp] theorem delimiterIn_engine (s : State) : s.delimiterIn.engine = s.engine := rfl
@[simp] theorem delimiterIn_notices (s : State) : s.delimiterIn.notices = s.notices := rfl
@[simp] theorem delimiterIn_pending (s : State) : s.delimiterIn.pending = s.pending := rfl
@[simp] theorem delimiterIn_ringIn (s : State) : s.delimiterIn.ringIn = s.ringIn := rfl
@[simp] theorem delimiterIn_slot (s : State) (j : Fin Config.slots) : s.delimiterIn.slot j = s.slot j := rfl
@[simp] theorem delimiterIn_head (s : State) (k : Fin Config.heads) : s.delimiterIn.head k = s.head k := rfl
@[simp] theorem delimiterIn_material (s : State) (q : Fin Config.materials) : s.delimiterIn.material q = s.material q := rfl
@[simp] theorem delimiterIn_limit (s : State) (q : Fin Config.limitSets) : s.delimiterIn.limit q = s.limit q := rfl

/-! ## A whole frame received -/

@[simp] theorem turnEnd_replies (r : RingPort) : r.turnEnd.replies = r.replies := by unfold RingPort.turnEnd; split <;> rfl
@[simp] theorem turnEnd_stations (r : RingPort) : r.turnEnd.stations = r.stations := by unfold RingPort.turnEnd; split <;> rfl
@[simp] theorem turnEnd_part (r : RingPort) : r.turnEnd.part = r.part := by unfold RingPort.turnEnd; split <;> rfl
@[simp] theorem turnEnd_strap (r : RingPort) : r.turnEnd.strap = r.strap := by unfold RingPort.turnEnd; split <;> rfl
@[simp] theorem turnEnd_permit (r : RingPort) : r.turnEnd.permit = r.permit := by unfold RingPort.turnEnd; split <;> rfl
@[simp] theorem turnEnd_counters (r : RingPort) : r.turnEnd.counters = r.counters := by unfold RingPort.turnEnd; split <;> rfl
@[simp] theorem cutEnd_replies (r : RingPort) : r.cutEnd.replies = r.replies := by unfold RingPort.cutEnd; split <;> rfl
@[simp] theorem cutEnd_stations (r : RingPort) : r.cutEnd.stations = r.stations := by unfold RingPort.cutEnd; split <;> rfl
@[simp] theorem cutEnd_part (r : RingPort) : r.cutEnd.part = r.part := by unfold RingPort.cutEnd; split <;> rfl
@[simp] theorem cutEnd_strap (r : RingPort) : r.cutEnd.strap = r.strap := by unfold RingPort.cutEnd; split <;> rfl
@[simp] theorem cutEnd_permit (r : RingPort) : r.cutEnd.permit = r.permit := by unfold RingPort.cutEnd; split <;> rfl
@[simp] theorem cutEnd_counters (r : RingPort) : r.cutEnd.counters = r.counters := by unfold RingPort.cutEnd; split <;> rfl

/-- What a frame finds of a release or a cut is driven whole: the part leaves ACTIVE, the ring only with the leave marked. -/
theorem turnEnd_cutEnd (r : RingPort) : r.turnEnd.cutEnd =
    if r.state = .active ∧ (r.phase = .releasing ∨ r.phase = .cutting) then
      r.leaveActive (if r.phase = .releasing ∧ r.leaveMarked = true then .offRing else .onRing)
    else r := by
  by_cases active : r.state = .active
  · cases phase : r.phase <;> cases leave : r.leaveMarked <;>
      simp [RingPort.turnEnd, RingPort.cutEnd, RingPort.leaveActive, RingPort.enter, active, phase, leave]
  · simp [RingPort.turnEnd, RingPort.cutEnd, active]

@[simp] theorem frame_replies (r : RingPort) : r.frame.replies = r.replies := by simp [RingPort.frame]
@[simp] theorem frame_stations (r : RingPort) : r.frame.stations = r.stations := by simp [RingPort.frame]
@[simp] theorem frame_part (r : RingPort) : r.frame.part = r.part := by simp [RingPort.frame]
@[simp] theorem frame_strap (r : RingPort) : r.frame.strap = r.strap := by simp [RingPort.frame]
@[simp] theorem frame_address (r : RingPort) : r.frame.address = r.address := by simp [RingPort.address]
@[simp] theorem frame_permits (r : RingPort) (source : Byte) (need : Option Right) :
    r.frame.permits source need = r.permits source need := by simp [RingPort.permits]

/-- Outside a turn a frame moves the receiver alone. -/
theorem frame_quiet {r : RingPort} (quiet : r.state ≠ .active) : r.frame = { r with rx := .atDelimiter } := by
  simp [RingPort.frame, RingPort.cut, RingPort.turnEnd, RingPort.cutEnd, quiet]

/-- A frame closes outside ACTIVE: what it found being driven is cut or driven whole before (R191). -/
theorem frame_not_active {r : RingPort} (sound : r.state = .active → r.phase ≠ .none) : r.frame.state ≠ .active := by
  by_cases active : r.state = .active
  · have some := sound active
    cases phase : r.phase <;> cases leave : r.leaveMarked <;>
      simp_all [RingPort.frame, RingPort.cut, RingPort.turnEnd, RingPort.cutEnd, RingPort.leaveActive, RingPort.enter,
        RingPort.count]
  · simpa [frame_quiet active] using active

@[simp] theorem frameIn_ring (s : State) : s.frameIn.ring = s.ring.frame := rfl
@[simp] theorem frameIn_slots (s : State) : s.frameIn.slots = s.slots := rfl
@[simp] theorem frameIn_armQueue (s : State) : s.frameIn.armQueue = s.armQueue := rfl
@[simp] theorem frameIn_completion (s : State) : s.frameIn.completion = s.completion := rfl
@[simp] theorem frameIn_template (s : State) : s.frameIn.template = s.template := rfl
@[simp] theorem frameIn_tracker (s : State) : s.frameIn.tracker = s.tracker := rfl
@[simp] theorem frameIn_heads (s : State) : s.frameIn.heads = s.heads := rfl
@[simp] theorem frameIn_pointer (s : State) : s.frameIn.pointer = s.pointer := rfl
@[simp] theorem frameIn_materials (s : State) : s.frameIn.materials = s.materials := rfl
@[simp] theorem frameIn_freeStrips (s : State) : s.frameIn.freeStrips = s.freeStrips := rfl
@[simp] theorem frameIn_eviction (s : State) : s.frameIn.eviction = s.eviction := rfl
@[simp] theorem frameIn_limits (s : State) : s.frameIn.limits = s.limits := rfl
@[simp] theorem frameIn_engine (s : State) : s.frameIn.engine = s.engine := rfl
@[simp] theorem frameIn_notices (s : State) : s.frameIn.notices = s.notices := rfl
@[simp] theorem frameIn_pending (s : State) : s.frameIn.pending = s.pending := rfl
@[simp] theorem frameIn_ringIn (s : State) : s.frameIn.ringIn = s.ringIn := rfl
@[simp] theorem frameIn_slot (s : State) (j : Fin Config.slots) : s.frameIn.slot j = s.slot j := rfl
@[simp] theorem frameIn_head (s : State) (k : Fin Config.heads) : s.frameIn.head k = s.head k := rfl
@[simp] theorem frameIn_material (s : State) (q : Fin Config.materials) : s.frameIn.material q = s.material q := rfl
@[simp] theorem frameIn_limit (s : State) (q : Fin Config.limitSets) : s.frameIn.limit q = s.limit q := rfl

/-! ## Admission and replies -/

/-- With room in the reply queue, a built reply joins its tail. -/
theorem enqueue_room {s : State} (room : s.ring.replies.length < Config.replyPlaces) (h : Header) (code : Byte)
    (a : Answer) : s.enqueue h code a = s.answered h code a.outcome a.body a.effect := by
  simp [State.enqueue, State.answered, room]

/-- With 16 replies queued no reply is built. -/
theorem enqueue_full {s : State} (full : Config.replyPlaces ≤ s.ring.replies.length) (h : Header) (code : Byte)
    (a : Answer) : s.enqueue h code a = s := by
  simp [State.enqueue, Nat.not_lt.mpr full]

/-- A request for the part is admitted after its frame. -/
theorem request_part {s : State} {h : Header} {row : RequestRow} (source : h.source ≠ 0) (single : h.dest ≠ 0)
    (part : h.dest = s.ring.address) (fits : Bool) (run : State → State × Answer) :
    s.request h row fits run = s.frameIn.admitted h row fits run := by
  simp only [State.request, frameIn_ring, frame_address, if_neg source, if_neg single, if_pos part]

/-- A request that passes every check is carried out after its frame, and its reply is built. -/
theorem request_admitted {s : State} {h : Header} {row : RequestRow} (ok : s.Admits h row)
    (run : State → State × Answer) :
    s.request h row true run = (run s.frameIn).1.enqueue h row.code (run s.frameIn).2 := by
  rw [request_part ok.source ok.single ok.part]
  simp [State.admitted, ok.right, Nat.not_le.mpr ok.room]

/-- The meaning of an admitted request whose command keeps the reply queue short of 16. -/
theorem answering_admitted {s : State} {h : Header} {row : RequestRow} (ok : s.Admits h row)
    (run : State → State × Answer) (room : (run s.frameIn).1.ring.replies.length < Config.replyPlaces) :
    answering h row run s = .next ((run s.frameIn).1.answered h row.code (run s.frameIn).2.outcome
      (run s.frameIn).2.body (run s.frameIn).2.effect) := by
  rw [answering, request_admitted ok, enqueue_room room]

/-- The meaning of an admitted request that only reads. -/
theorem reading_admitted {s : State} {h : Header} {row : RequestRow} (ok : s.Admits h row) (answer : State → Answer) :
    answering h row (reading answer) s = .next (s.frameIn.answered h row.code (answer s.frameIn).outcome
      (answer s.frameIn).body (answer s.frameIn).effect) :=
  answering_admitted ok _ (by simpa [reading] using ok.room)

/-- A request for the part that finds 16 replies queued is shed. -/
theorem request_shed {s : State} {h : Header} {row : RequestRow} (source : h.source ≠ 0) (single : h.dest ≠ 0)
    (part : h.dest = s.ring.address) (full : Config.replyPlaces ≤ s.ring.replies.length) (other : row.code ≠ joinCode)
    (fits : Bool) (run : State → State × Answer) : s.request h row fits run = s.frameIn.shedRequest := by
  rw [request_part source single part]
  simp [State.admitted, full, other]

/-- A request whose source lacks the right is answered DENIED and counted. -/
theorem request_denied {s : State} {h : Header} {row : RequestRow} (source : h.source ≠ 0) (single : h.dest ≠ 0)
    (part : h.dest = s.ring.address) (room : s.ring.replies.length < Config.replyPlaces)
    (lacks : s.ring.permits h.source row.need = false) (run : State → State × Answer) :
    s.request h row true run =
      (s.frameIn.countRing .denied).answered h row.code .denied [] := by
  have kept : (s.frameIn.countRing .denied).ring.replies.length < Config.replyPlaces := by
    simpa [State.countRing] using room
  rw [request_part source single part]
  simp [State.admitted, Nat.not_le.mpr room, lacks, enqueue_room kept]

/-- A request for another station is ignored after its frame. -/
theorem request_elsewhere {s : State} {h : Header} {row : RequestRow} (source : h.source ≠ 0) (single : h.dest ≠ 0)
    (elsewhere : h.dest ≠ s.ring.address) (fits : Bool) (run : State → State × Answer) :
    s.request h row fits run = s.frameIn := by
  simp only [State.request, frameIn_ring, frame_address, if_neg source, if_neg single, if_neg elsewhere]

end Sys2Proof.Laws
end

