-- ==== Sys2Proof/Laws/PerInstr.lean ====
section
/-! SUPPORT. For every command: the request frame body that carries it is read back as the command (R202). -/

namespace Sys2Proof.Laws

open Sys2Proof.Machine

/-! ## Fields and select sets -/

/-- A two-octet field is read back from its octets. -/
theorem halfOf_octets (v : Half) : halfOf (v.extractLsb' 0 8) (v.extractLsb' 8 8) = v := by
  apply BitVec.eq_of_getLsbD_eq
  intro i hi
  simp only [halfOf, BitVec.getLsbD_append, BitVec.getLsbD_extractLsb']
  by_cases h : i < 8
  · simp [h]
  · have : i - 8 < 8 := by omega
    simp [h, this]
    congr 1; omega
/-- A four-octet field is read back from its octets. -/
theorem wordOf_octets (v : Word) :
    wordOf (v.extractLsb' 0 8) (v.extractLsb' 8 8) (v.extractLsb' 16 8) (v.extractLsb' 24 8) = v := by
  apply BitVec.eq_of_getLsbD_eq
  intro i hi
  simp only [wordOf, BitVec.getLsbD_append, BitVec.getLsbD_extractLsb']
  by_cases h : i < 8
  · simp [h]
  · by_cases h2 : i < 16
    · have a : i - 8 < 8 := by omega
      simp [h, a]; congr 1; omega
    · by_cases h3 : i < 24
      · have a : ¬ i - 8 < 8 := by omega
        have b : i - 8 - 8 < 8 := by omega
        simp [h, a, b]; congr 1; omega
      · have a : ¬ i - 8 < 8 := by omega
        have b : ¬ i - 8 - 8 < 8 := by omega
        have c : i - 8 - 8 - 8 < 8 := by omega
        simp [h, a, b, c]; congr 1; omega
/-- A select set bit by bit. -/
theorem selectSet_cons (b : Bool) (l : List Bool) : selectSet (b :: l) = flagCode b + 2 * selectSet l := by
  cases b <;> simp [selectSet, pack, flagCode]
/-- A select set lies in the bits of its fields. -/
theorem selectSet_lt (l : List Bool) : selectSet l < 2 ^ l.length := by
  induction l with
  | nil => simp [selectSet, pack]
  | cons b l ih =>
    rw [selectSet_cons, List.length_cons, Nat.pow_succ]
    cases b <;> (simp [flagCode]; omega)
/-- Bit k of a select set is the presence of field k. -/
theorem selectSet_testBit (l : List Bool) (k : Nat) : (selectSet l).testBit k = l.getD k false := by
  induction l generalizing k with
  | nil => simp [selectSet, pack]
  | cons b l ih =>
    rw [selectSet_cons]
    cases k with
    | zero => cases b <;> simp [flagCode, Nat.testBit_zero]
    | succ k =>
      rw [Nat.testBit_succ]
      have : (flagCode b + 2 * selectSet l) / 2 = selectSet l := by
        have small : flagCode b < 2 := by cases b <;> decide
        omega
      simpa [this] using ih k
/-- Bit k of a select set carried in `w` bits is the presence of field k. -/
theorem selectBit (w : Nat) (l : List Bool) (fits : l.length ≤ w) (k : Nat) :
    (BitVec.ofNat w (selectSet l)).getLsbD k = l.getD k false := by
  have lt := selectSet_lt l
  have le : 2 ^ l.length ≤ 2 ^ w := Nat.pow_le_pow_right (by omega) fits
  rw [BitVec.getLsbD_ofNat, selectSet_testBit]
  by_cases h : k < w
  · simp [h]
  · have : l.length ≤ k := by omega
    simp [h, this]
/-- A select set made from the presence of its fields names no other field. -/
theorem selects_ofNat (w : Nat) (l : List Bool) (fits : l.length ≤ w) :
    selects w l.length (BitVec.ofNat w (selectSet l)) = true := by
  have lt := selectSet_lt l
  have le : 2 ^ l.length ≤ 2 ^ w := Nat.pow_le_pow_right (by omega) fits
  simp [selects, BitVec.toNat_ofNat, Nat.mod_eq_of_lt (Nat.lt_of_lt_of_le lt le), lt]
/-- A selected value is read back from its octets, and nothing is read for an unselected one. -/
theorem readIf_octetsIf {w n : Nat} (v : Option (BitVec w)) (octets : BitVec w → List Byte) (rest : List Byte)
    (long : ∀ x, (octets x).length = n) (back : ∀ x, leField w (octets x) = x) :
    readIf v.isSome w n (octetsIf v octets ++ rest) = some (v, rest) := by
  cases v with
  | none => simp [readIf, octetsIf]
  | some x => simp [readIf, octetsIf, long, back]
/-- An octet is read back. -/
theorem leField_octet (x : Byte) : leField 8 [x] = x := by simp [leField, leValue]
/-- A two-octet field is read back by its value. -/
theorem leField_half (x : Half) : leField 16 (halfOctets x) = x := by
  apply BitVec.eq_of_toNat_eq
  simp [leField, leValue, halfOctets, BitVec.toNat_ofNat]
  have := x.isLt
  rw [Nat.shiftRight_eq_div_pow]; omega
/-- A four-octet field is read back by its value. -/
theorem leField_word (x : Word) : leField 32 (wordOctets x) = x := by
  apply BitVec.eq_of_toNat_eq
  simp [leField, leValue, wordOctets, BitVec.toNat_ofNat]
  have := x.isLt
  simp only [Nat.shiftRight_eq_div_pow]; omega

/-- The last selected value of a body is read back, with nothing left. -/
theorem readIf_octetsIf_last {w n : Nat} (v : Option (BitVec w)) (octets : BitVec w → List Byte)
    (long : ∀ x, (octets x).length = n) (back : ∀ x, leField w (octets x) = x) :
    readIf v.isSome w n (octetsIf v octets) = some (v, []) := by
  simpa using readIf_octetsIf v octets [] long back

theorem readOctet (v : Option Byte) (rest : List Byte) :
    readIf v.isSome 8 1 (octetsIf v (fun b => [b]) ++ rest) = some (v, rest) :=
  readIf_octetsIf v _ rest (fun _ => rfl) leField_octet

theorem readHalf (v : Option Half) (rest : List Byte) :
    readIf v.isSome 16 2 (octetsIf v halfOctets ++ rest) = some (v, rest) :=
  readIf_octetsIf v _ rest (fun _ => rfl) leField_half

theorem readHalf_last (v : Option Half) : readIf v.isSome 16 2 (octetsIf v halfOctets) = some (v, []) :=
  readIf_octetsIf_last v _ (fun _ => rfl) leField_half

theorem readWord (v : Option Word) (rest : List Byte) :
    readIf v.isSome 32 4 (octetsIf v wordOctets ++ rest) = some (v, rest) :=
  readIf_octetsIf v _ rest (fun _ => rfl) leField_word

/-- A reference is read back from its octets. -/
theorem refOf_octets (ref : RecordRef) :
    refOf ref.form (ref.octets.extractLsb' 0 8) (ref.octets.extractLsb' 8 8) (ref.octets.extractLsb' 16 8)
      (ref.octets.extractLsb' 24 8) = ref := by
  simp [refOf, wordOf_octets]

/-- The selected values of AMEND are read back. -/
theorem parseAmend_octets (f : AmendFields) (h : Header) (ref : RecordRef) :
    parseAmend h (refOctets ref ++ amendOctets f) = some (.amend h ref f) := by
  obtain ⟨a1, a2, a3, a4, a5, a6, a7, a8, a9⟩ := f
  have named : selects 16 9 (BitVec.ofNat 16 (selectSet [a1.isSome, a2.isSome, a3.isSome, a4.isSome, a5.isSome,
      a6.isSome, a7.isSome, a8.isSome, a9.isSome])) = true := selects_ofNat 16 _ (by simp)
  have read : parseAmendFields (BitVec.ofNat 16 (selectSet [a1.isSome, a2.isSome, a3.isSome, a4.isSome, a5.isSome,
      a6.isSome, a7.isSome, a8.isSome, a9.isSome]))
      (octetsIf a1 wordOctets ++ (octetsIf a2 (fun b => [b]) ++ (octetsIf a3 (fun b => [b]) ++
        (octetsIf a4 (fun b => [b]) ++ (octetsIf a5 (fun b => [b]) ++ (octetsIf a6 halfOctets ++
        (octetsIf a7 wordOctets ++ (octetsIf a8 (fun b => [b]) ++ octetsIf a9 halfOctets)))))))) =
      some ⟨a1, a2, a3, a4, a5, a6, a7, a8, a9⟩ := by
    have bit := selectBit 16 [a1.isSome, a2.isSome, a3.isSome, a4.isSome, a5.isSome, a6.isSome, a7.isSome, a8.isSome,
      a9.isSome] (by simp)
    simp only [parseAmendFields, named, bit, List.getD_cons_zero, List.getD_cons_succ]
    simp [readOctet, readHalf, readWord, readHalf_last, guard]
  simp only [parseAmend, refOctets, wordOctets, amendOctets, halfOctets, List.cons_append, List.nil_append,
    List.append_assoc, halfOf_octets, refOf_octets]
  exact congrArg (Option.map fun v => Instr.amend h ref v) read

/-- The masks and selected values of LIMIT WRITE are read back. -/
theorem parseLimitWrite_octets (f : LimitFields) (h : Header) (n : Byte) :
    parseLimitWrite h (n :: limitOctets f) = some (.limitWrite h n f) := by
  obtain ⟨keep, put, a1, a2, a3, a4, a5, a6, a7⟩ := f
  have named : selects 8 7 (BitVec.ofNat 8 (selectSet [a1.isSome, a2.isSome, a3.isSome, a4.isSome, a5.isSome,
      a6.isSome, a7.isSome])) = true := selects_ofNat 8 _ (by simp)
  have read : parseLimitFields (BitVec.ofNat 8 (selectSet [a1.isSome, a2.isSome, a3.isSome, a4.isSome, a5.isSome,
      a6.isSome, a7.isSome])) keep put
      (octetsIf a1 halfOctets ++ (octetsIf a2 halfOctets ++ (octetsIf a3 halfOctets ++
        (octetsIf a4 (fun b => [b]) ++ (octetsIf a5 (fun b => [b]) ++ (octetsIf a6 (fun b => [b]) ++
        octetsIf a7 halfOctets)))))) =
      some ⟨keep, put, a1, a2, a3, a4, a5, a6, a7⟩ := by
    have bit := selectBit 8 [a1.isSome, a2.isSome, a3.isSome, a4.isSome, a5.isSome, a6.isSome, a7.isSome] (by simp)
    simp only [parseLimitFields, named, bit, List.getD_cons_zero, List.getD_cons_succ]
    simp [readOctet, readHalf, readHalf_last, guard]
  simp only [parseLimitWrite, limitOctets, List.cons_append, List.nil_append, List.append_assoc]
  exact congrArg (Option.map fun v => Instr.limitWrite h n v) read

/-- The entries of a list are read back, from the entry number `k` on. -/
theorem readEntries_octets (set : Byte) (es : List (Option (Byte × Byte))) (k : Nat)
    (bits : ∀ j < es.length, set.getLsbD (k + j) = (es.getD j none).isSome) :
    readEntries set (List.range' k es.length) (entryOctets es) = some es := by
  induction es generalizing k with
  | nil => rfl
  | cons e es ih =>
    have first : set.getLsbD k = e.isSome := by simpa using bits 0 (by simp)
    have rest := ih (k + 1) (fun j small => by
      have b := bits (j + 1) (by simpa using small)
      simpa [Nat.add_assoc, Nat.add_comm 1 j] using b)
    rw [List.length_cons, List.range'_succ]
    cases e with
    | none => simpa [readEntries, first, entryOctets] using rest
    | some ar =>
      obtain ⟨a, r⟩ := ar
      simp only [entryOctets, List.flatMap_cons, List.cons_append, List.nil_append] at rest ⊢
      simp [readEntries, first, rest]

/-- The selected entries of STATIONS WRITE are read back. -/
theorem parseStationsWrite_octets (f : StationFields) (h : Header) :
    parseStationsWrite h (stationsOctets f) = some (.stationsWrite h f) := by
  obtain ⟨high, entries⟩ := f
  have read := readEntries_octets (BitVec.ofNat 8 (selectSet (entries.toList.map Option.isSome))) entries.toList 0
    (fun j small => by
      rw [Nat.zero_add, selectBit 8 _ (by simp [Config.stationEntries])]
      simp only [List.getD_eq_getElem?_getD, List.getElem?_map]
      cases entries.toList[j]? <;> rfl)
  have len : entries.toList.length = Config.stationEntries := Vector.length_toList
  rw [len, ← List.range_eq_range'] at read
  simp only [parseStationsWrite, stationsOctets, List.cons_append, List.nil_append, read]
  simp only [Option.map_some, Option.some.injEq, Instr.stationsWrite.injEq, StationFields.mk.injEq, true_and]
  ext k hk
  simp

/-! ## The family -/

/-- The parsers' words for the codes of the table. -/
theorem parse_of {h : Header} {code : Byte} {parse : List Byte → Option Instr}
    (known : parserOf code (bodyParsers h) = some parse) (body : List Byte) : parseRequest h code body = parse body := by
  simp [parseRequest, known]

/-- A FIND flags set is read back from its octets. -/
theorem flags_octets (v : BitVec 24) : v.extractLsb' 16 8 ++ v.extractLsb' 8 8 ++ v.extractLsb' 0 8 = v := by
  apply BitVec.eq_of_getLsbD_eq
  intro i hi
  simp only [BitVec.getLsbD_append, BitVec.getLsbD_extractLsb']
  by_cases h : i < 8
  · simp [h]
  · by_cases h2 : i < 16
    · have a : i - 8 < 8 := by omega
      simp [h, a]; congr 1; omega
    · have a : ¬ i - 8 < 8 := by omega
      have b : i - 8 - 8 < 8 := by omega
      simp [h, a, b]; congr 1; omega

/-- A well-formed command that a request frame carries is the command its code and body are read as (R202, R170 check 2). -/
def RoundTrip.Statement (i : Instr) : Prop :=
  i.wellFormed = true → ∀ h code body, requestOctets i = some (h, code, body) →
    (parseRequest h code body).getD (.malformed h code body) = i

/-- A request command whose parser reads its octets back. -/
theorem roundTrip_of {i : Instr} {h : Header} {code : Byte} {body : List Byte} {parse : List Byte → Option Instr}
    (octets : requestOctets i = some (h, code, body)) (known : parserOf code (bodyParsers h) = some parse)
    (read : parse body = some i) : RoundTrip.Statement i := by
  intro _ h' code' body' e
  rw [octets] at e
  simp only [Option.some.injEq, Prod.mk.injEq] at e
  obtain ⟨rfl, rfl, rfl⟩ := e
  rw [parse_of known, read]
  rfl

/-- A command that no request frame carries. -/
theorem roundTrip_none {i : Instr} (octets : requestOctets i = none) : RoundTrip.Statement i := by
  intro _ h code body e
  rw [octets] at e
  exact absurd e (by simp)

/-- The octets of the seven shell fields are read back. -/
theorem parseShell_octets (f : ShellFields) : parseShell (shellOctets f) = some f := by
  simp [parseShell, shellOctets, halfOctets, wordOctets, halfOf_octets, wordOf_octets]

/-- A body that is a record reference is read back. -/
theorem parseRef_octets (make : RecordRef → Instr) (ref : RecordRef) :
    parseRef make (refOctets ref) = some (make ref) := by
  simp [parseRef, refOctets, wordOctets, refOf_octets]

theorem RoundTrip.arm (h : Header) (id : Word) (f : ShellFields) : RoundTrip.Statement (.arm h id f) := by
  refine roundTrip_of rfl rfl ?_
  simp [parseArm, wordOctets, parseShell_octets, wordOf_octets]

theorem RoundTrip.disarm (h : Header) (ref : RecordRef) : RoundTrip.Statement (.disarm h ref) :=
  roundTrip_of rfl rfl (parseRef_octets _ ref)

theorem RoundTrip.lookup (h : Header) (ref : RecordRef) : RoundTrip.Statement (.lookup h ref) :=
  roundTrip_of rfl rfl (parseRef_octets _ ref)

theorem RoundTrip.find (h : Header) (states : Byte) (verdicts : Byte) (flags : BitVec 24) :
    RoundTrip.Statement (.find h states verdicts flags) := by
  refine roundTrip_of rfl rfl ?_
  simp only [parseFind, flags_octets]

theorem RoundTrip.amend (h : Header) (ref : RecordRef) (f : AmendFields) : RoundTrip.Statement (.amend h ref f) :=
  roundTrip_of rfl rfl (parseAmend_octets f h ref)

theorem RoundTrip.templateWrite (h : Header) (f : ShellFields) : RoundTrip.Statement (.templateWrite h f) := by
  refine roundTrip_of rfl rfl ?_
  simp [parseTemplateWrite, parseShell_octets]

theorem RoundTrip.templateRead (h : Header) : RoundTrip.Statement (.templateRead h) :=
  roundTrip_of rfl rfl rfl

theorem RoundTrip.trackerSet (h : Header) (f : TrackerFields) : RoundTrip.Statement (.trackerSet h f) := by
  refine roundTrip_of rfl rfl ?_
  simp [parseTrackerSet, trackerOctets, halfOctets, halfOf_octets]

theorem RoundTrip.headSet (h : Header) (head : Byte) (f : HeadFields) : RoundTrip.Statement (.headSet h head f) := by
  refine roundTrip_of rfl rfl ?_
  simp [parseHeadSet, headOctets, halfOctets, halfOf_octets]

theorem RoundTrip.headEnable (h : Header) (head : Byte) : RoundTrip.Statement (.headEnable h head) :=
  roundTrip_of rfl rfl rfl

theorem RoundTrip.headDisable (h : Header) (head : Byte) : RoundTrip.Statement (.headDisable h head) :=
  roundTrip_of rfl rfl rfl

theorem RoundTrip.headRead (h : Header) (head : Byte) : RoundTrip.Statement (.headRead h head) :=
  roundTrip_of rfl rfl rfl

theorem RoundTrip.materialWrite (h : Header) (entry : Byte) (f : MaterialValues) :
    RoundTrip.Statement (.materialWrite h entry f) := by
  refine roundTrip_of rfl rfl ?_
  simp [parseMaterialWrite, materialOctets, halfOctets, halfOf_octets]

theorem RoundTrip.materialClear (h : Header) (entry : Byte) : RoundTrip.Statement (.materialClear h entry) :=
  roundTrip_of rfl rfl rfl

theorem RoundTrip.materialRead (h : Header) (entry : Byte) : RoundTrip.Statement (.materialRead h entry) :=
  roundTrip_of rfl rfl rfl

theorem RoundTrip.poolStatus (h : Header) : RoundTrip.Statement (.poolStatus h) :=
  roundTrip_of rfl rfl rfl

theorem RoundTrip.poolSet (h : Header) (setting : Byte) : RoundTrip.Statement (.poolSet h setting) :=
  roundTrip_of rfl rfl rfl

theorem RoundTrip.readStrips (h : Header) (ref : RecordRef) (form : Byte) (first : Half) (count : Byte) :
    RoundTrip.Statement (.readStrips h ref form first count) := by
  refine roundTrip_of rfl rfl ?_
  simp [parseReadStrips, refOctets, wordOctets, halfOctets, halfOf_octets, refOf_octets]

theorem RoundTrip.limitWrite (h : Header) (set : Byte) (f : LimitFields) :
    RoundTrip.Statement (.limitWrite h set f) :=
  roundTrip_of rfl rfl (parseLimitWrite_octets f h set)

theorem RoundTrip.limitRead (h : Header) (set : Byte) : RoundTrip.Statement (.limitRead h set) :=
  roundTrip_of rfl rfl rfl

theorem RoundTrip.readZones (h : Header) (ref : RecordRef) : RoundTrip.Statement (.readZones h ref) :=
  roundTrip_of rfl rfl (parseRef_octets _ ref)

theorem RoundTrip.rejudge (h : Header) (ref : RecordRef) : RoundTrip.Statement (.rejudge h ref) :=
  roundTrip_of rfl rfl (parseRef_octets _ ref)

theorem RoundTrip.claim (h : Header) (ref : RecordRef) : RoundTrip.Statement (.claim h ref) :=
  roundTrip_of rfl rfl (parseRef_octets _ ref)

theorem RoundTrip.release (h : Header) (ref : RecordRef) : RoundTrip.Statement (.release h ref) :=
  roundTrip_of rfl rfl (parseRef_octets _ ref)

theorem RoundTrip.retireNow (h : Header) (ref : RecordRef) (option : Byte) :
    RoundTrip.Statement (.retireNow h ref option) := by
  intro wf h' code body e
  simp only [Instr.wellFormed, Bool.and_eq_true, decide_eq_true_eq] at wf
  simp only [requestOctets, Option.some.injEq, Prod.mk.injEq] at e
  obtain ⟨rfl, rfl, rfl⟩ := e
  rw [parse_of (parse := parseRetire h) rfl]
  simp only [parseRetire, refOctets, wordOctets, List.cons_append, List.nil_append, refOf_octets, if_neg wf.1.2,
    if_neg wf.2, Option.getD_some]

theorem RoundTrip.retireDeferred (h : Header) (ref : RecordRef) : RoundTrip.Statement (.retireDeferred h ref) := by
  refine roundTrip_of rfl rfl ?_
  simp [parseRetire, refOctets, wordOctets, refOf_octets]

theorem RoundTrip.retireForce (h : Header) (ref : RecordRef) : RoundTrip.Statement (.retireForce h ref) := by
  refine roundTrip_of rfl rfl ?_
  simp [parseRetire, refOctets, wordOctets, refOf_octets]

theorem RoundTrip.setAddress (h : Header) (part : Byte) : RoundTrip.Statement (.setAddress h part) :=
  roundTrip_of rfl rfl rfl

theorem RoundTrip.stationsWrite (h : Header) (f : StationFields) : RoundTrip.Statement (.stationsWrite h f) :=
  roundTrip_of rfl rfl (parseStationsWrite_octets f h)

theorem RoundTrip.joinRing (h : Header) : RoundTrip.Statement (.joinRing h) :=
  roundTrip_of rfl rfl rfl

theorem RoundTrip.leaveRing (h : Header) : RoundTrip.Statement (.leaveRing h) :=
  roundTrip_of rfl rfl rfl

theorem RoundTrip.noticeMask (h : Header) (mask : Half) : RoundTrip.Statement (.noticeMask h mask) := by
  refine roundTrip_of rfl rfl ?_
  simp [parseNoticeMask, halfOctets, halfOf_octets]

theorem RoundTrip.fetchNotice (h : Header) : RoundTrip.Statement (.fetchNotice h) :=
  roundTrip_of rfl rfl rfl

theorem RoundTrip.partStatus (h : Header) : RoundTrip.Statement (.partStatus h) :=
  roundTrip_of rfl rfl rfl

theorem RoundTrip.countersRead (h : Header) : RoundTrip.Statement (.countersRead h) :=
  roundTrip_of rfl rfl rfl

theorem RoundTrip.countersClear (h : Header) : RoundTrip.Statement (.countersClear h) :=
  roundTrip_of rfl rfl rfl

theorem RoundTrip.restart (h : Header) : RoundTrip.Statement (.restart h) :=
  roundTrip_of rfl rfl rfl

theorem RoundTrip.malformed (h : Header) (code : Byte) (body : List Byte) :
    RoundTrip.Statement (.malformed h code body) := by
  intro wf h' code' body' e
  simp only [requestOctets, Option.some.injEq, Prod.mk.injEq] at e
  obtain ⟨rfl, rfl, rfl⟩ := e
  simp only [Instr.wellFormed, Bool.and_eq_true, Option.isNone_iff_eq_none] at wf
  rw [wf.2, Option.getD_none]

theorem RoundTrip.ignoredBroadcast (source : Byte) (code : Byte) (body : List Byte) :
    RoundTrip.Statement (.ignoredBroadcast source code body) :=
  roundTrip_none rfl

theorem RoundTrip.poll (dest : Byte) (source : Byte) : RoundTrip.Statement (.poll dest source) :=
  roundTrip_none rfl

theorem RoundTrip.frameDiscard (content : List Bool) : RoundTrip.Statement (.frameDiscard content) :=
  roundTrip_none rfl

theorem RoundTrip.longFrame : RoundTrip.Statement .longFrame :=
  roundTrip_none rfl

theorem RoundTrip.abort : RoundTrip.Statement .abort :=
  roundTrip_none rfl

theorem RoundTrip.idleRun : RoundTrip.Statement .idleRun :=
  roundTrip_none rfl

theorem RoundTrip.takeTurn : RoundTrip.Statement .takeTurn :=
  roundTrip_none rfl

theorem RoundTrip.replySent : RoundTrip.Statement .replySent :=
  roundTrip_none rfl

theorem RoundTrip.turnEnd : RoundTrip.Statement .turnEnd :=
  roundTrip_none rfl

theorem RoundTrip.turnCut : RoundTrip.Statement .turnCut :=
  roundTrip_none rfl

theorem RoundTrip.cutEnd : RoundTrip.Statement .cutEnd :=
  roundTrip_none rfl

theorem RoundTrip.entryChange : RoundTrip.Statement .entryChange :=
  roundTrip_none rfl

theorem RoundTrip.litEdge : RoundTrip.Statement .litEdge :=
  roundTrip_none rfl

theorem RoundTrip.darkEdge : RoundTrip.Statement .darkEdge :=
  roundTrip_none rfl

theorem RoundTrip.advancePulse : RoundTrip.Statement .advancePulse :=
  roundTrip_none rfl

theorem RoundTrip.stall : RoundTrip.Statement .stall :=
  roundTrip_none rfl

theorem RoundTrip.spinPulse : RoundTrip.Statement .spinPulse :=
  roundTrip_none rfl

theorem RoundTrip.indexPulse : RoundTrip.Statement .indexPulse :=
  roundTrip_none rfl

theorem RoundTrip.spinTimeout : RoundTrip.Statement .spinTimeout :=
  roundTrip_none rfl

theorem RoundTrip.headReport (port : Fin Config.heads) (octets : List Byte) :
    RoundTrip.Statement (.headReport port octets) :=
  roundTrip_none rfl

theorem RoundTrip.corrupt (port : Fin Config.heads) (octets : List RunOctet) :
    RoundTrip.Statement (.corrupt port octets) :=
  roundTrip_none rfl

theorem RoundTrip.stray (port : Fin Config.heads) (octets : List RunOctet) :
    RoundTrip.Statement (.stray port octets) :=
  roundTrip_none rfl

theorem RoundTrip.silenceTimeout (port : Fin Config.heads) : RoundTrip.Statement (.silenceTimeout port) :=
  roundTrip_none rfl

theorem RoundTrip.shotService : RoundTrip.Statement .shotService :=
  roundTrip_none rfl

theorem RoundTrip.rejudgeStep : RoundTrip.Statement .rejudgeStep :=
  roundTrip_none rfl

theorem RoundTrip.powerOn (straps : BitVec 2) : RoundTrip.Statement (.powerOn straps) :=
  roundTrip_none rfl

theorem RoundTrip.lineIdleGap (port : Fin Config.heads) : RoundTrip.Statement (.lineIdleGap port) :=
  roundTrip_none rfl

theorem RoundTrip.delimiterReceived : RoundTrip.Statement .delimiterReceived :=
  roundTrip_none rfl

end Sys2Proof.Laws
end

