-- ==== Sys2Proof/Certificates/Slice0/Obligations.lean ====
section
/-! DEFINITION. The statements for the provers. -/

open Sys2Proof Sys2Proof.Machine

/-! ## The machine -/

/-- A step with a command at the front of the queue is that command carried out on the state with the queue's rest. -/
def Obligations.StepRunsFrontCommand : Prop :=
  ∀ (c : Instr) (rest : List Instr) (s : State), step { s with pending := c :: rest } = exec c { s with pending := rest }

/-- No command stops the part: each leads to a next state, and none touches the waiting commands or the waiting bits. With no command waiting a step changes nothing, or takes one bit from RING IN: the model's choice (log entry 1). The commands that a bit time queues: REPLY_SENT, TURN_END or CUT_END with the last bit driven, then what was received (that order: log entry 15): a delimiter or the cut of a turn, the command of a closed content, an abort, a long frame, a release or an idle run. What one bit does at the receiver: a 1 opens a frame, or counts, its sixth in a frame being a release or an abort and its twelfth an idle run; a 0 ends a run, which is a delimiter, a frame's close, or content, the 257th octet being taken when the 0 is received (log entry 11). -/
def Obligations.StepsAlwaysLeadOn : Prop :=
  (∀ (i : Instr) (s : State), ∃ t, exec i s = .next t ∧ t.pending = s.pending ∧ t.ringIn = s.ringIn) ∧
  (∀ s : State, s.pending = [] →
    (s.ringIn = [] → step s = .next s) ∧
    (∀ b rest, s.ringIn = b :: rest →
      step s = .next { s with
        ring := { s.ring with
          rx := (s.ring.rx.bit b).1
          ringOut := match s.ring.state with
            | .offRing => none
            | .joining => none
            | .onRing => s.ring.held
            | .active => s.ring.toDrive.head?
          held := some b
          toDrive := if s.ring.state = .active then s.ring.toDrive.tail else s.ring.toDrive }
        ringIn := rest
        pending := s.ring.bitEvents b })) ∧
  (∀ (r : RingPort) (b : Bool), r.bitEvents b =
    (if r.state = .active ∧ r.toDrive.length = 1 then
      (match r.phase with
        | .none => []
        | .sending => [Instr.replySent]
        | .releasing => [.turnEnd]
        | .cutting => [.cutEnd])
     else []) ++
    (match (r.rx.bit b).2 with
      | none => []
      | some .delimiter => if r.state = .active ∧ r.phase = .sending then [.turnCut] else [.delimiterReceived]
      | some (.closed content) => [frameCommand r.address content]
      | some .abort => [.abort]
      | some .long => [.longFrame]
      | some .release => [.takeTurn]
      | some .idle => [.idleRun])) ∧
  (∀ r : Receiver,
    let opened : Receiver :=
      { state := .opened, ones := 0, afterZero := true, fresh := false, zeroKept := false, content := [] }
    let zeroed : Receiver := { r with ones := 0, afterZero := true, fresh := false }
    let gathered := r.content ++ List.replicate r.ones true ++ (if r.ones < 4 then [false] else [])
    (r.state = .opened →
      r.bit true = ({ r with state := .inFrame, fresh := true, content := [], ones := 1 }, none)) ∧
    (r.state = .inFrame → r.ones = 5 → r.bit true =
      ({ r with state := .hunt, content := [], ones := 6 }, some (if r.fresh = true then .release else .abort))) ∧
    (r.state ≠ .opened → ¬(r.state = .inFrame ∧ r.ones = 5) → r.bit true =
      ({ r with ones := min 12 (r.ones + 1) }, if r.ones = 11 then some .idle else none)) ∧
    (r.state = .hunt → r.bit false =
      if r.ones = 5 ∧ r.afterZero = true then (opened, some .delimiter) else (zeroed, none)) ∧
    (r.state = .opened →
      r.bit false = ({ zeroed with state := .inFrame, content := [false], zeroKept := true }, none)) ∧
    (r.state = .inFrame → r.ones = 5 → r.bit false =
      (opened, some (.closed (if r.zeroKept = true then r.content.dropLast else r.content)))) ∧
    (r.state = .inFrame → r.ones ≠ 5 → r.bit false =
      if 2056 ≤ gathered.length then ({ zeroed with state := .hunt, content := [] }, some .long)
      else ({ zeroed with content := gathered, zeroKept := decide (r.ones < 4) }, none)))

/-- POWER_ON in any state sets every block to its power-on values; the address is then 40 + the strap value, and a lit ENTRY line starts a debounce interval with the count 0. The state after reset has the values of power-on, with the straps at 0 and ENTRY dark (log entries 5 and 6) and nothing waiting. -/
def Obligations.PowerOnSetsEveryValue : Prop :=
  (∀ (straps : BitVec 2) (s : State), ∃ t, exec (.powerOn straps) s = .next t ∧ PowerOnValues straps t ∧
    t.ring.address.toNat = 40 + straps.toNat ∧ t.tracker.raw = s.tracker.raw ∧
    t.tracker.candidate = (if s.tracker.raw = .lit then some 0 else none)) ∧
  (PowerOnValues 0 State.reset ∧ State.reset.tracker.raw = .dark ∧ State.reset.tracker.candidate = none ∧
    State.reset.pending = [] ∧ State.reset.ringIn = [])

/-! ## Notices and counters -/

/-- A raise makes a kind pending with count 1, or adds one to its count up to 255, keeps the latest subject, leaves every other kind, and the attention line is asserted exactly when a pending kind is enabled; nothing else of the state changes. Ring and head counters count by the events and stop at 65,535. -/
def Obligations.RaisesAndCounts : Prop :=
  (∀ (s : State) (k : NoticeKind) (subject : Subject),
    let e := s.notices.entries[k.idx]
    let t := s.raise k subject
    t.notices.entries[k.idx] =
      { pending := true, count := if e.pending then min 255 (e.count + 1) else 1, subject } ∧
    (∀ j : Fin 11, j ≠ k.idx → t.notices.entries[j] = s.notices.entries[j]) ∧
    t.notices.mask = s.notices.mask ∧
    (t.notices.attention = true ↔
      ∃ j : Fin 11, t.notices.entries[j].pending = true ∧ t.notices.mask.getLsbD j = true) ∧
    t = { s with notices := t.notices }) ∧
  (∀ (r : RingPort) (c : RingCounter) (j : Fin 8),
    (r.count c).counters[j] = if j = c.idx then min 65535 (r.counters[j] + 1) else r.counters[j]) ∧
  (∀ (p : HeadPort) (c : HeadCounter) (n : Nat) (j : Fin 14),
    (p.count c n).counters[j] = if j = c.idx then min 65535 (p.counters[j] + n) else p.counters[j])

/-! ## Admission of requests -/

/-- A request for the part that finds 16 replies queued is shed: no reply, no effect but one SHED and REQUESTS_SHED; so is a broadcast RESTART from address 1. JOIN RING alone is then carried out, without a reply; from a source without the SETUP right it counts one DENIED without a reply; one of a wrong length has no effect at all (log entry 17). -/
def Obligations.FullReplyQueueSheds : Prop :=
  (∀ (i : Instr) (h : Header) (code : Byte) (body : List Byte) (s : State),
    requestOctets i = some (h, code, body) → code ≠ 0x52 → h.source ≠ 0 → h.dest ≠ 0 → h.dest = s.ring.address →
    16 ≤ s.ring.replies.length →
    exec i s = .next ((s.frameIn.countRing .shed).raise .requestsShed .none)) ∧
  (∀ (h : Header) (s : State), h.source = 1 → h.dest = 0 → 16 ≤ s.ring.replies.length →
    exec (.restart h) s = .next ((s.frameIn.countRing .shed).raise .requestsShed .none)) ∧
  (∀ (h : Header) (s : State), h.source ≠ 0 → h.dest ≠ 0 → h.dest = s.ring.address → 16 ≤ s.ring.replies.length →
    (s.ring.permits h.source (some .setup) = true →
      exec (.joinRing h) s = .next (if s.frameIn.ring.state = .offRing then
        { s.frameIn with ring := { s.frameIn.ring with state := .joining, bypass := true, ringOut := none } }
        else s.frameIn)) ∧
    (s.ring.permits h.source (some .setup) = false →
      exec (.joinRing h) s = .next (s.frameIn.countRing .denied)) ∧
    (∀ body, exec (.malformed h 0x52 body) s = .next s.frameIn))

/-- A request whose source lacks the right of its command, address 1 apart, is answered DENIED with an empty body and counted; nothing else happens. -/
def Obligations.MissingRightIsDenied : Prop :=
  ∀ (i : Instr) (h : Header) (code : Byte) (body : List Byte) (row : RequestRow) (s : State),
    requestOctets i = some (h, code, body) → (∀ c b, i ≠ .malformed h c b) → codeRow code = some row →
    h.source ≠ 0 → h.dest ≠ 0 → h.dest = s.ring.address → s.ring.replies.length < 16 → h.source ≠ 1 →
    (∀ right, row.need = some right → ∀ (k : Fin Config.stationEntries) st, s.ring.stations[k] = some st →
      st.address = h.source → hasRight st.rights right = false) →
    exec i s = .next ((s.frameIn.countRing .denied).answered h code .denied [])

/-- What becomes of requests that reach no block: one with an unknown code or a wrong length is answered MALFORMED with an empty body; one for another station only closes its frame; one with source 0 is a FORMAT fault; a broadcast other than a RESTART from address 1 gets no reply and is counted. -/
def Obligations.RequestsThatReachNoBlock : Prop :=
  (∀ (h : Header) (code : Byte) (body : List Byte) (s : State),
    h.source ≠ 0 → h.dest ≠ 0 → h.dest = s.ring.address → s.ring.replies.length < 16 →
    exec (.malformed h code body) s = .next (s.frameIn.answered h code .malformed [])) ∧
  (∀ (i : Instr) (h : Header) (code : Byte) (body : List Byte) (s : State), requestOctets i = some (h, code, body) →
    (h.source = 0 → exec i s = .next (s.frameIn.countRing .format)) ∧
    (h.source ≠ 0 → h.dest ≠ 0 → h.dest ≠ s.ring.address → exec i s = .next s.frameIn) ∧
    (h.source ≠ 0 → h.dest = 0 → ¬(i = .restart h ∧ h.source = 1) →
      exec i s = .next (s.frameIn.countRing .ignoredBroadcast))) ∧
  (∀ (source code : Byte) (body : List Byte) (s : State), source ≠ 0 →
    exec (.ignoredBroadcast source code body) s = .next (s.frameIn.countRing .ignoredBroadcast))

/-! ## Record references -/

/-- How a reference is resolved: by the shell id of a live record, by a slot, or by a slot and its generation. -/
def Obligations.ReferencesResolve : Prop :=
  ∀ (s : State) (ref : RecordRef),
    (ref.form = 0 →
      (∀ i, (s.slot i).state ≠ .free → (s.slot i).shellId = some ref.octets →
        (∀ j, j ≠ i → (s.slot j).state ≠ .free → (s.slot j).shellId ≠ some ref.octets) → s.resolve ref = .ok i) ∧
      ((∀ i, (s.slot i).state ≠ .free → (s.slot i).shellId ≠ some ref.octets) → s.resolve ref = .error .notFound)) ∧
    (ref.form = 1 ∨ ref.form = 2 →
      (15 < ref.octets.toNat % 256 → s.resolve ref = .error .range) ∧
      (∀ i : Fin Config.slots, ref.octets.toNat % 256 = i.val →
        s.resolve ref =
          if (s.slot i).state = .free then .error .notFound
          else if ref.form = 2 ∧ ref.octets.toNat / 256 % 256 ≠ (s.slot i).generation.toNat then .error .notFound
          else .ok i)) ∧
    (2 < ref.form.toNat → s.resolve ref = .error .range)

/-- Every command on a record whose reference does not resolve is refused with that outcome, naming no field, and changes nothing. -/
def Obligations.UnresolvedReferencesAreRefused : Prop :=
  ∀ (s : State) (h : Header) (ref : RecordRef) (o : ReplyCode), s.resolve ref = .error o →
    (s.Admits h rowDisarm → exec (.disarm h ref) s = .next (s.frameIn.answered h 0x11 o [0])) ∧
    (s.Admits h rowLookup → exec (.lookup h ref) s = .next (s.frameIn.answered h 0x12 o [0])) ∧
    (∀ f, s.Admits h rowAmend → exec (.amend h ref f) s = .next (s.frameIn.answered h 0x14 o [0])) ∧
    (∀ form first count, s.Admits h rowReadStrips →
      exec (.readStrips h ref form first count) s = .next (s.frameIn.answered h 0x3A o [0])) ∧
    (s.Admits h rowReadZones → exec (.readZones h ref) s = .next (s.frameIn.answered h 0x42 o [0])) ∧
    (s.Admits h rowRejudge → exec (.rejudge h ref) s = .next (s.frameIn.answered h 0x43 o [0])) ∧
    (s.Admits h rowClaim → exec (.claim h ref) s = .next (s.frameIn.answered h 0x48 o [0])) ∧
    (s.Admits h rowRelease → exec (.release h ref) s = .next (s.frameIn.answered h 0x49 o [0])) ∧
    (∀ option, s.Admits h rowRetire →
      exec (.retireNow h ref option) s = .next (s.frameIn.answered h 0x4A o [0])) ∧
    (s.Admits h rowRetire → exec (.retireDeferred h ref) s = .next (s.frameIn.answered h 0x4A o [0])) ∧
    (s.Admits h rowRetire → exec (.retireForce h ref) s = .next (s.frameIn.answered h 0x4A o [0]))

/-! ## The shell table -/

/-- ARM with its fields in range, its entry DEFINED, its id not held, fewer than 4 records queued and a FREE slot: the lowest FREE slot becomes ARMED at the tail of the queue, the entry's count rises, the reply gives slot and generation, and nothing else changes. -/
def Obligations.ArmPlacesRecord : Prop :=
  ∀ (s : State) (h : Header) (id : Word) (f : ShellFields) (g : Fin Config.materials) (i : Fin Config.slots),
    s.Admits h rowArm → f.grade.toNat = g.val → f.limitSet.toNat ≤ 3 → f.hand.toNat ≤ 1 →
    10 ≤ f.pitch.toNat → f.pitch.toNat ≤ 200 → 2000 ≤ f.nominal.toNat → f.nominal.toNat ≤ 100000 →
    f.leadCrop.toNat ≤ 63 → f.tailCrop.toNat ≤ 63 → (s.material g).fields ≠ none →
    (∀ j, (s.slot j).state ≠ .free → (s.slot j).shellId ≠ some id) → s.armQueue.length < 4 →
    (s.slot i).state = .free → (∀ j, j < i → (s.slot j).state ≠ .free) →
    exec (.arm h id f) s = .next (State.answered
      ({ s.frameIn with armQueue := s.armQueue ++ [i] }.setSlot i
        { generation := (s.slot i).generation, state := .armed, rejudging := false, retirePending := false,
          shellId := some id, shell := ShellFields.settings f, length := none, lastTemp := none, strips := [],
          zones := [], claims := [], verdict := .none, history := 0, derived := 0, accepted := 0, rejected := 0,
          late := 0 }
        |>.setMaterial g { s.material g with refs := (s.material g).refs + 1 })
      h 0x10 .done [BitVec.ofNat 8 i, (s.slot i).generation])

/-- ARM's refusals at checks 1 to 4, the first failing check giving the outcome and the field; nothing but the reply changes. ARM without a FREE slot: it takes the slot that an eviction frees, the record joining the queue, the entry's count rising by one and the reply giving the slot and its new generation, or is refused FULL and changes nothing. -/
def Obligations.ArmRefusesOrEvicts : Prop :=
  (∀ (s : State) (h : Header) (id : Word) (f : ShellFields) (o : ReplyCode) (field : Nat), s.Admits h rowArm →
    (if 31 < f.grade.toNat then some (ReplyCode.range, 2)
      else if 3 < f.limitSet.toNat then some (.range, 3)
      else if 1 < f.hand.toNat then some (.range, 4)
      else if f.pitch.toNat < 10 ∨ 200 < f.pitch.toNat then some (.range, 5)
      else if f.nominal.toNat < 2000 ∨ 100000 < f.nominal.toNat then some (.range, 6)
      else if 63 < f.leadCrop.toNat then some (.range, 7)
      else if 63 < f.tailCrop.toNat then some (.range, 8)
      else if (s.material (ShellFields.settings f).grade).fields = none then some (.noGrade, 0)
      else if ∃ j, (s.slot j).state ≠ .free ∧ (s.slot j).shellId = some id then some (.duplicate, 0)
      else if 4 ≤ s.armQueue.length then some (.queueFull, 0)
      else none) = some (o, field) →
    exec (.arm h id f) s = .next (s.frameIn.answered h 0x10 o [BitVec.ofNat 8 field])) ∧
  (∀ (s : State) (h : Header) (id : Word) (f : ShellFields),
    s.Admits h rowArm → f.grade.toNat ≤ 31 → f.limitSet.toNat ≤ 3 → f.hand.toNat ≤ 1 → 10 ≤ f.pitch.toNat →
    f.pitch.toNat ≤ 200 → 2000 ≤ f.nominal.toNat → f.nominal.toNat ≤ 100000 → f.leadCrop.toNat ≤ 63 →
    f.tailCrop.toNat ≤ 63 → (s.material (ShellFields.settings f).grade).fields ≠ none →
    (∀ j, (s.slot j).state ≠ .free → (s.slot j).shellId ≠ some id) → s.armQueue.length < 4 →
    (∀ j, (s.slot j).state ≠ .free) →
    (∀ i t, s.allocSlot = some (i, t) →
      let g := (ShellFields.settings f).grade
      let armed : Record := { Record.free ((s.slot i).generation + 1) with
        state := .armed, shell := ShellFields.settings f, shellId := some id }
      let u := State.answered
        (({ t with ring := s.frameIn.ring, armQueue := t.armQueue ++ [i] }.setSlot i armed).setMaterial g
          { t.material g with refs := (t.material g).refs + 1 })
        h 0x10 .done [BitVec.ofNat 8 i, (s.slot i).generation + 1]
      exec (.arm h id f) s = .next u ∧ u.slot i = armed ∧ (∀ j, j ≠ i → u.slot j = s.slot j) ∧
      u.completion = t.completion ∧ u.notices = t.notices ∧ u.freeStrips = t.freeStrips) ∧
    (s.allocSlot = none → exec (.arm h id f) s = .next (s.frameIn.answered h 0x10 .full [0])))

/-- Slot allocation: the lowest FREE slot; else, with eviction on, the oldest record on the completion order list that is not REJUDGING and has no claims is freed, EVICTED is raised with its id, or its slot and old generation, and the slot is that one; else it fails. A strip request that finds the pool empty with eviction on frees the oldest record of the completion order list that is not REJUDGING and has no claims, with EVICTED for it, and goes on until a strip is free or no record is eligible; with eviction off, or a strip free, it evicts nothing. Strips are allocated one at a time, each request seeking in this way and then taking one strip, OPEN, to the end of the record's list; at the first that finds none after its evictions, the rest are not made and the evictions stand. -/
def Obligations.AllocationEvictsOldest : Prop :=
  (∀ s : State,
    (∀ i, (s.slot i).state = .free → (∀ j, j < i → (s.slot j).state ≠ .free) → s.allocSlot = some (i, s)) ∧
    ((∀ i, (s.slot i).state ≠ .free) →
      (∀ before i after, s.completion = before ++ i :: after → s.eviction = true →
        (∀ j ∈ before, (s.slot j).rejudging = true ∨ (s.slot j).claims ≠ []) →
        (s.slot i).rejudging = false → (s.slot i).claims = [] →
        s.allocSlot = some (i, (s.freeRecord i).raise .evicted (match (s.slot i).shellId with
          | some id => .shell id
          | none => .slot i (s.slot i).generation))) ∧
      (s.eviction = false ∨ (∀ j ∈ s.completion, (s.slot j).rejudging = true ∨ (s.slot j).claims ≠ []) →
        s.allocSlot = none))) ∧
  (∀ s : State,
    (0 < s.freeStrips ∨ s.eviction = false → s.seekStrip = s) ∧
    ((∀ j ∈ s.completion, (s.slot j).rejudging = true ∨ (s.slot j).claims ≠ []) → s.seekStrip = s) ∧
    (∀ before i after, s.freeStrips = 0 → s.eviction = true → s.completion.Nodup →
      s.completion = before ++ i :: after →
      (∀ j ∈ before, (s.slot j).rejudging = true ∨ (s.slot j).claims ≠ []) →
      (s.slot i).rejudging = false → (s.slot i).claims = [] →
      let evicted := (s.freeRecord i).raise .evicted (match (s.slot i).shellId with
        | some id => .shell id
        | none => .slot i (s.slot i).generation)
      ((s.slot i).strips ≠ [] → s.seekStrip = evicted) ∧
      ((s.slot i).strips = [] → s.seekStrip = evicted.seekStrip))) ∧
  (∀ (s : State) (i : Fin Config.slots),
    State.allocStrips 0 i s = (s, true) ∧
    (∀ n, s.seekStrip.freeStrips = 0 → State.allocStrips (n + 1) i s = (s.seekStrip, false)) ∧
    (∀ n, 0 < s.seekStrip.freeStrips → State.allocStrips (n + 1) i s =
      State.allocStrips n i (State.setSlot { s.seekStrip with freeStrips := s.seekStrip.freeStrips - 1 } i
        { s.seekStrip.slot i with
          strips := (s.seekStrip.slot i).strips ++ [{ state := .opened, kinds := 0, ecc := none }] })))

/-- Freeing a record in one event: it leaves both lists, its context and its rejudge run end, a MEASURING context leaving a blind passage, its strips return, its material count falls, its fields take the values of a FREE record, the generation advances by one, and every other slot and block stays. -/
def Obligations.FreeingDoesAll : Prop :=
  ∀ (s : State) (i : Fin Config.slots),
    let t := s.freeRecord i
    let g := (s.slot i).shell.grade
    t.slot i = { generation := (s.slot i).generation + 1, state := .free, rejudging := false, retirePending := false,
                 shellId := none,
                 shell := { grade := 0, limitSet := 0, hand := .forward, pitch := 0, nominal := 0, leadCrop := 0,
                            tailCrop := 0 },
                 length := none, lastTemp := none, strips := [], zones := [], claims := [], verdict := .none,
                 history := 0, derived := 0, accepted := 0, rejected := 0, late := 0 } ∧
    (∀ j, j ≠ i → t.slot j = s.slot j) ∧
    t.armQueue = s.armQueue.filter (fun j => decide (j ≠ i)) ∧
    t.completion = s.completion.filter (fun j => decide (j ≠ i)) ∧
    t.tracker.contexts = s.tracker.contexts.filter (fun c => decide (c.slot ≠ i)) ∧
    (t.tracker.blind = true ↔
      s.tracker.blind = true ∨ ∃ c ∈ s.tracker.contexts, c.slot = i ∧ c.role = .measuring) ∧
    (t.tracker.stallTimer = .running ↔ t.tracker.contexts ≠ [] ∨ t.tracker.blind = true) ∧
    t.tracker = { s.tracker with
      contexts := t.tracker.contexts, blind := t.tracker.blind, stallTimer := t.tracker.stallTimer } ∧
    (∀ run, s.engine = some run → run.slot = i → t.engine = none) ∧
    ((∀ run, s.engine = some run → run.slot ≠ i) → t.engine = s.engine) ∧
    t.freeStrips = s.freeStrips + (s.slot i).strips.length ∧
    (t.material g).refs = (s.material g).refs - 1 ∧ (t.material g).fields = (s.material g).fields ∧
    (∀ q, q ≠ g → t.material q = s.material q) ∧
    t = { s with
      slots := t.slots, armQueue := t.armQueue, completion := t.completion, tracker := t.tracker, engine := t.engine,
      freeStrips := t.freeStrips, materials := t.materials }

/-- DISARM frees an ARMED record and is refused STATE for any other. -/
def Obligations.DisarmFreesArmedRecord : Prop :=
  ∀ (s : State) (h : Header) (ref : RecordRef) (i : Fin Config.slots), s.Admits h rowDisarm → s.resolve ref = .ok i →
    exec (.disarm h ref) s = .next (if (s.slot i).state = .armed
      then (s.frameIn.freeRecord i).answered h 0x11 .done []
      else s.frameIn.answered h 0x11 .state [0])

/-- LOOKUP answers the record's header in 44 octets and changes nothing else. -/
def Obligations.LookupAnswersHeader : Prop :=
  ∀ (s : State) (h : Header) (ref : RecordRef) (i : Fin Config.slots), s.Admits h rowLookup → s.resolve ref = .ok i →
    let r := s.slot i
    exec (.lookup h ref) s = .next (s.frameIn.answered h 0x12 .done
      (le 1 i ++ [r.generation] ++ le 1 r.state.code ++
        le 1 ((if r.rejudging then 1 else 0) + (if r.retirePending then 2 else 0)) ++
        le 1 ((if r.shellId.isSome then 1 else 0) + (if r.length.isSome then 2 else 0) +
          (if r.lastTemp.isSome then 4 else 0)) ++
        le 4 ((r.shellId.map BitVec.toNat).getD 0) ++ le 1 r.shell.grade ++ le 1 r.shell.limitSet ++
        le 1 r.shell.hand.code ++ le 2 r.shell.pitch ++ le 4 r.shell.nominal ++ le 1 r.shell.leadCrop ++
        le 1 r.shell.tailCrop ++ le 4 (r.length.getD 0) ++ le 2 (r.lastTemp.getD 0) ++ le 1 r.claims.length ++
        r.claims ++ List.replicate (4 - r.claims.length) 0 ++ le 1 r.verdict.code ++ le 2 r.history.toNat ++
        le 1 r.derived.toNat ++ le 2 r.accepted ++ le 2 r.rejected ++ le 2 r.late ++ le 2 r.strips.length ++
        le 1 r.zones.length))

/-- FIND lists, in ascending slot order, the live records that meet all three criteria, an empty set admitting all; a criterion that names a value outside its members is refused RANGE by its number. -/
def Obligations.FindListsMatches : Prop :=
  ∀ (s : State) (h : Header) (states verdicts : Byte) (flags : BitVec 24), s.Admits h rowFind →
    ((∃ k : Nat, (k = 0 ∨ 6 ≤ k) ∧ states.getLsbD k = true) →
      exec (.find h states verdicts flags) s = .next (s.frameIn.answered h 0x13 .range [1])) ∧
    ((∀ k : Nat, k = 0 ∨ 6 ≤ k → states.getLsbD k = false) → (∃ k : Nat, 5 ≤ k ∧ verdicts.getLsbD k = true) →
      exec (.find h states verdicts flags) s = .next (s.frameIn.answered h 0x13 .range [2])) ∧
    ((∀ k : Nat, k = 0 ∨ 6 ≤ k → states.getLsbD k = false) → (∀ k : Nat, 5 ≤ k → verdicts.getLsbD k = false) →
      (∃ k : Nat, 17 ≤ k ∧ flags.getLsbD k = true) →
      exec (.find h states verdicts flags) s = .next (s.frameIn.answered h 0x13 .range [3])) ∧
    ((∀ k : Nat, k = 0 ∨ 6 ≤ k → states.getLsbD k = false) → (∀ k : Nat, 5 ≤ k → verdicts.getLsbD k = false) →
      (∀ k : Nat, 17 ≤ k → flags.getLsbD k = false) →
      ∃ found : List (Fin Config.slots), found.Pairwise (· < ·) ∧
        (∀ i, i ∈ found ↔ (s.slot i).state ≠ .free ∧ (states = 0 ∨ states.getLsbD (s.slot i).state.code = true) ∧
          (verdicts = 0 ∨ verdicts.getLsbD (s.slot i).verdict.code = true) ∧
          (flags = 0 ∨ (∃ k, k < 10 ∧ flags.getLsbD k = true ∧ (s.slot i).history.getLsbD k = true) ∨
            (∃ k, k < 5 ∧ flags.getLsbD (10 + k) = true ∧ (s.slot i).derived.getLsbD k = true) ∨
            (flags.getLsbD 15 = true ∧ (s.slot i).rejudging = true) ∨
            (flags.getLsbD 16 = true ∧ (s.slot i).retirePending = true))) ∧
        exec (.find h states verdicts flags) s = .next (s.frameIn.answered h 0x13 .done
          (le 1 found.length ++ found.flatMap fun (i : Fin Config.slots) =>
            le 1 i ++ le 1 (if (s.slot i).shellId.isSome then 1 else 0) ++
              le 4 (((s.slot i).shellId.map BitVec.toNat).getD 0))))

/-- AMEND of a live record that is neither RETIRE_PENDING nor REJUDGING, every selected field passing its checks: all selected fields change in the one event, a changed grade entry moves the two counts, a new id clears UNNAMED, and nothing else changes. -/
def Obligations.AmendChangesSelectedFields : Prop :=
  ∀ (s : State) (h : Header) (ref : RecordRef) (f : AmendFields) (i : Fin Config.slots),
    s.Admits h rowAmend → s.resolve ref = .ok i → (s.slot i).retirePending = false → (s.slot i).rejudging = false →
    (∀ v, f.shellId = some v → ∀ j, j ≠ i → (s.slot j).state ≠ .free → (s.slot j).shellId ≠ some v) →
    (∀ v, f.limitSet = some v → v.toNat ≤ 3) → (∀ v, f.tailCrop = some v → v.toNat ≤ 63) →
    (∀ v, f.grade = some v → (s.slot i).state = .armed ∧
      ∃ g : Fin Config.materials, v.toNat = g.val ∧ (s.material g).fields ≠ none) →
    (∀ v, f.hand = some v → (s.slot i).state = .armed ∧ v.toNat ≤ 1) →
    (∀ v, f.pitch = some v → (s.slot i).state = .armed ∧ 10 ≤ v.toNat ∧ v.toNat ≤ 200) →
    (∀ v, f.nominal = some v → (s.slot i).state = .armed ∧ 2000 ≤ v.toNat ∧ v.toNat ≤ 100000) →
    (∀ v, f.leadCrop = some v → (s.slot i).state = .armed ∧ v.toNat ≤ 63) →
    (∀ v, f.clearHistory = some v → v.toNat < 512) →
    ∃ t : State, exec (.amend h ref f) s = .next (t.answered h 0x14 .done []) ∧
      (∀ j, j ≠ i → t.slot j = s.slot j) ∧
      t.slot i = { s.slot i with
        shellId := (t.slot i).shellId, history := (t.slot i).history, shell := (t.slot i).shell } ∧
      (t.slot i).shellId = (f.shellId.or (s.slot i).shellId) ∧
      (∀ k, k < 9 → ((t.slot i).history.getLsbD k =
        ((s.slot i).history.getLsbD k && !(f.clearHistory.any fun m => m.getLsbD k)))) ∧
      ((t.slot i).history.getLsbD 9 =
        ((s.slot i).history.getLsbD 9 && !(f.shellId.isSome && decide (f.shellId ≠ (s.slot i).shellId)))) ∧
      (t.slot i).shell.grade.val = (f.grade.map BitVec.toNat).getD (s.slot i).shell.grade ∧
      (t.slot i).shell.limitSet.val = (f.limitSet.map BitVec.toNat).getD (s.slot i).shell.limitSet ∧
      (t.slot i).shell.hand = (f.hand.map fun v => if v.toNat = 0 then Hand.forward else .counter).getD
        (s.slot i).shell.hand ∧
      (t.slot i).shell.pitch = (f.pitch.map BitVec.toNat).getD (s.slot i).shell.pitch ∧
      (t.slot i).shell.nominal = (f.nominal.map BitVec.toNat).getD (s.slot i).shell.nominal ∧
      (t.slot i).shell.leadCrop = (f.leadCrop.map BitVec.toNat).getD (s.slot i).shell.leadCrop ∧
      (t.slot i).shell.tailCrop = (f.tailCrop.map BitVec.toNat).getD (s.slot i).shell.tailCrop ∧
      (∀ g, (t.material g).fields = (s.material g).fields ∧
        (t.material g).refs =
          if (t.slot i).shell.grade = (s.slot i).shell.grade then (s.material g).refs
          else if g = (s.slot i).shell.grade then (s.material g).refs - 1
          else if g = (t.slot i).shell.grade then (s.material g).refs + 1
          else (s.material g).refs) ∧
      t = { s.frameIn with slots := t.slots, materials := t.materials }

/-- AMEND's refusals: STATE under RETIRE_PENDING and BUSY under REJUDGING with no field named; else the first failing selected field in field-list order, with its number; nothing but the reply changes. -/
def Obligations.AmendRefusesInOrder : Prop :=
  ∀ (s : State) (h : Header) (ref : RecordRef) (f : AmendFields) (i : Fin Config.slots) (o : ReplyCode) (field : Nat),
    s.Admits h rowAmend → s.resolve ref = .ok i →
    let armed := (s.slot i).state = .armed
    (if (s.slot i).retirePending = true then some (ReplyCode.state, 0)
      else if (s.slot i).rejudging = true then some (.busy, 0)
      else if (f.shellId.any fun v => decide (∃ j, j ≠ i ∧ (s.slot j).state ≠ .free ∧ (s.slot j).shellId = some v)) = true then
        some (.duplicate, 1)
      else if (f.limitSet.any fun v => decide (3 < v.toNat)) = true then some (.range, 2)
      else if (f.tailCrop.any fun v => decide (63 < v.toNat)) = true then some (.range, 3)
      else if f.grade ≠ none ∧ ¬armed then some (.state, 4)
      else if (f.grade.any fun v => decide (31 < v.toNat)) = true then some (.range, 4)
      else if (f.grade.any fun v => decide (∃ g : Fin Config.materials, g.val = v.toNat ∧ (s.material g).fields = none)) = true then
        some (.noGrade, 4)
      else if f.hand ≠ none ∧ ¬armed then some (.state, 5)
      else if (f.hand.any fun v => decide (1 < v.toNat)) = true then some (.range, 5)
      else if f.pitch ≠ none ∧ ¬armed then some (.state, 6)
      else if (f.pitch.any fun v => decide ((v.toNat < 10 ∨ 200 < v.toNat))) = true then some (.range, 6)
      else if f.nominal ≠ none ∧ ¬armed then some (.state, 7)
      else if (f.nominal.any fun v => decide ((v.toNat < 2000 ∨ 100000 < v.toNat))) = true then some (.range, 7)
      else if f.leadCrop ≠ none ∧ ¬armed then some (.state, 8)
      else if (f.leadCrop.any fun v => decide (63 < v.toNat)) = true then some (.range, 8)
      else if (f.clearHistory.any fun v => decide (512 ≤ v.toNat)) = true then some (.range, 9)
      else none) = some (o, field) →
    exec (.amend h ref f) s = .next (s.frameIn.answered h 0x14 o [BitVec.ofNat 8 field])

/-- The carried fields of ARM and TEMPLATE WRITE in their ranges give settings of those values. TEMPLATE WRITE with every field in range replaces the whole template; the first field out of range is refused RANGE by its number; TEMPLATE READ answers the seven fields and changes nothing. -/
def Obligations.TemplateIsWrittenAndRead : Prop :=
  (∀ f : ShellFields, f.grade.toNat ≤ 31 → f.limitSet.toNat ≤ 3 → f.hand.toNat ≤ 1 →
    (ShellFields.settings f).grade.val = f.grade.toNat ∧ (ShellFields.settings f).limitSet.val = f.limitSet.toNat ∧
    (ShellFields.settings f).hand = (if f.hand.toNat = 0 then .forward else .counter) ∧
    (ShellFields.settings f).pitch = f.pitch.toNat ∧ (ShellFields.settings f).nominal = f.nominal.toNat ∧
    (ShellFields.settings f).leadCrop = f.leadCrop.toNat ∧ (ShellFields.settings f).tailCrop = f.tailCrop.toNat) ∧
  (∀ (s : State) (h : Header) (f : ShellFields), s.Admits h rowTemplateWrite →
    exec (.templateWrite h f) s = .next
      (let refused := fun n => s.frameIn.answered h 0x15 .range [n]
      if 31 < f.grade.toNat then refused 1 else if 3 < f.limitSet.toNat then refused 2
      else if 1 < f.hand.toNat then refused 3 else if f.pitch.toNat < 10 ∨ 200 < f.pitch.toNat then refused 4
      else if f.nominal.toNat < 2000 ∨ 100000 < f.nominal.toNat then refused 5
      else if 63 < f.leadCrop.toNat then refused 6 else if 63 < f.tailCrop.toNat then refused 7
      else State.answered { s.frameIn with template := ShellFields.settings f } h 0x15 .done [])) ∧
  (∀ (s : State) (h : Header), s.Admits h rowTemplateRead →
    exec (.templateRead h) s = .next (s.frameIn.answered h 0x16 .done
      (le 1 s.template.grade ++ le 1 s.template.limitSet ++ le 1 s.template.hand.code ++ le 2 s.template.pitch ++
        le 4 s.template.nominal ++ le 1 s.template.leadCrop ++ le 1 s.template.tailCrop)))

/-! ## The tracker -/

/-- TRACKER SET with no passage open and all seven values in range replaces the seven settings; it is BUSY with a passage open, and RANGE with the number of the first value out of range; every reply gives the settings held. -/
def Obligations.TrackerSetStoresSettings : Prop :=
  ∀ (s : State) (h : Header) (f : TrackerFields), s.Admits h rowTrackerSet →
    let body := fun (t : TrackerSettings) => le 2 t.advanceScale ++ le 2 t.headPlane ++ le 2 t.closeDistance ++
      le 2 t.stallTime ++ le 2 t.spinPulses ++ le 2 t.spinTimeout ++ le 1 t.debounce
    let held := body s.tracker.settings
    (s.tracker.contexts ≠ [] ∨ s.tracker.blind = true →
      exec (.trackerSet h f) s = .next (s.frameIn.answered h 0x20 .busy (0 :: held))) ∧
    (s.tracker.contexts = [] → s.tracker.blind = false →
      exec (.trackerSet h f) s = .next
        (let refused := fun n => s.frameIn.answered h 0x20 .range (n :: held)
        if f.advanceScale.toNat < 100 ∨ 20000 < f.advanceScale.toNat then refused 1
        else if f.headPlane.toNat < 200 ∨ 5000 < f.headPlane.toNat then refused 2
        else if 500 < f.closeDistance.toNat then refused 3
        else if f.stallTime.toNat < 100 ∨ 10000 < f.stallTime.toNat then refused 4
        else if f.spinPulses.toNat < 64 ∨ 4096 < f.spinPulses.toNat then refused 5
        else if f.spinTimeout.toNat < 50 ∨ 5000 < f.spinTimeout.toNat then refused 6
        else if f.debounce.toNat < 1 ∨ 50 < f.debounce.toNat then refused 7
        else
          let t : TrackerSettings :=
            { advanceScale := f.advanceScale.toNat, headPlane := f.headPlane.toNat,
              closeDistance := f.closeDistance.toNat, stallTime := f.stallTime.toNat,
              spinPulses := f.spinPulses.toNat, spinTimeout := f.spinTimeout.toNat, debounce := f.debounce.toNat }
          State.answered { s.frameIn with tracker := { s.tracker with settings := t } } h 0x20 .done (body t)))

/-- A raw level that comes to differ from the entry state leaves the present advance count as the candidate; a return to the entry state discards it; nothing else changes. A dark edge that carries the candidate count finishes the MEASURING context and its record with the length from front to tail, or ends a blind passage, or changes the entry state alone. An event without a debounce interval from LIT in progress changes nothing: the model's choice (log entry 4). -/
def Obligations.EntryEdgesFollowLevel : Prop :=
  (∀ s : State, ∃ raw : Level, raw ≠ s.tracker.raw ∧
    exec .entryChange s = .next { s with
      tracker := { s.tracker with
        raw := raw, candidate := if raw = s.tracker.entry then none else some s.tracker.advance } }) ∧
  (∀ s : State,
    (∀ edge before c after, s.tracker.entry = .lit → s.tracker.candidate = some edge →
      s.tracker.contexts = before ++ c :: after → c.role = .measuring → (∀ b ∈ before, b.role = .finishing) →
      (s.tracker.contexts.map Context.slot).Nodup →
      exec .darkEdge s = .next (State.setSlot { s with
        tracker := { s.tracker with
          entry := .dark, candidate := none
          contexts := before ++ { c with tail := some edge, role := .finishing } :: after } } c.slot
        { s.slot c.slot with
          state := .finishing
          length := some (min 4294967295 ((edge - c.front).toNat * 1000 / s.tracker.settings.advanceScale)) })) ∧
    (∀ edge, s.tracker.entry = .lit → s.tracker.candidate = some edge →
      (∀ c ∈ s.tracker.contexts, c.role = .finishing) →
      exec .darkEdge s = .next { s with
        tracker := { s.tracker with
          entry := .dark, candidate := none, blind := false
          stallTimer := if s.tracker.contexts = [] then .stopped else .running } }) ∧
    (s.tracker.entry = .dark ∨ s.tracker.candidate = none → exec .darkEdge s = .next s))

/-- A lit edge that carries the candidate count is one arrival: with two contexts open the older record is flagged CUT_SHORT and completed first; then the head of the arming queue, or a slot allocated for an anonymous record from the template, becomes MEASURING with a new context; without either UNRECORDED is raised and a blind passage opens. An event without a debounce interval from DARK in progress changes nothing: the model's choice (log entry 4). -/
def Obligations.LitEdgeOpensPassage : Prop :=
  ∀ s : State,
    (∀ (edge : Word) (u : State), s.tracker.entry = .dark → s.tracker.candidate = some edge →
      (let lit : State := { s with tracker := { s.tracker with entry := .lit, candidate := none } }
       (s.tracker.contexts.length < 2 ∧ u = lit) ∨
        (∃ older newer more, s.tracker.contexts = older :: newer :: more ∧
          u = (lit.setSlot older.slot { s.slot older.slot with
            history := (s.slot older.slot).history ||| 0x040#10 }).completeRecord older.slot)) →
      let opened := fun (i : Fin Config.slots) (generation : Byte) =>
        { u.tracker with
          stallTimer := .running
          contexts := u.tracker.contexts ++ [{ slot := i, generation, front := edge, tail := none, role := .measuring }] }
      (∀ i rest, u.armQueue = i :: rest →
        exec .litEdge s = .next (State.setSlot { u with
          armQueue := rest, tracker := opened i (u.slot i).generation } i { u.slot i with state := .measuring })) ∧
      (u.armQueue = [] → (u.material u.template.grade).fields = none ∨ u.allocSlot = none →
        exec .litEdge s = .next (State.raise { u with
          tracker := { u.tracker with blind := true, stallTimer := .running } } .unrecorded .none)) ∧
      (∀ i v, u.armQueue = [] → (u.material u.template.grade).fields ≠ none → u.allocSlot = some (i, v) →
        exec .litEdge s = .next (State.setMaterial
          (State.setSlot { v with
            tracker := { v.tracker with
              stallTimer := .running
              contexts := v.tracker.contexts ++
                [{ slot := i, generation := (v.slot i).generation, front := edge, tail := none, role := .measuring }] } } i
            { Record.free (v.slot i).generation with
              state := .measuring, shell := u.template, history := 0x200#10 })
          u.template.grade
          { v.material u.template.grade with refs := (v.material u.template.grade).refs + 1 }))) ∧
    (s.tracker.entry = .lit ∨ s.tracker.candidate = none → exec .litEdge s = .next s)

/-- The stamp of a report. In UNSYNCED, or with no context covering the head, it is UNPLACED. Otherwise the first FINISHING context whose shell the head distance falls on, else the MEASURING one, gives slot and generation; the station is the distance by the pitch, carried as 1,024 at most; the angle comes from the spin count; and the sector from the two angles by the hand, the modulo of a negative value being taken between 0 and 4,095. -/
def Obligations.ReportsAreStamped : Prop :=
  ∀ (s : State) (p : Fin Config.heads),
    let distance := fun (c : Context) =>
      (((s.tracker.advance - c.front).toNat * 1000 / s.tracker.settings.advanceScale : Nat) : Int) -
        (s.tracker.settings.headPlane : Int) - (s.head p).settings.offset
    let covers := fun (c : Context) => 0 ≤ distance c ∧
      (c.role = .finishing → distance c < ((s.slot c.slot).length.getD 0 : Int))
    (s.tracker.spin = .unsynced → s.stamp p = .unplaced) ∧
    ((∀ c ∈ s.tracker.contexts, ¬covers c) → s.stamp p = .unplaced) ∧
    (∀ before c after, s.tracker.spin = .synced → s.tracker.contexts = before ++ c :: after → covers c →
      (∀ b ∈ before, covers b → b.role = .measuring ∧ c.role = .finishing) →
      (c.role = .measuring → ∀ b ∈ s.tracker.contexts, b.role = .finishing → ¬covers b) →
      let a : Nat := s.tracker.spinCount.toNat * 4096 / s.tracker.settings.spinPulses % 4096
      ∃ sector : Fin Config.sectors,
        s.stamp p = .placed c.slot c.generation (min 1024 ((distance c).toNat / (s.slot c.slot).shell.pitch)) a sector ∧
        ((s.slot c.slot).shell.hand = .forward → sector.val = ((s.head p).settings.angle + a) % 4096 * 12 / 4096) ∧
        ((s.slot c.slot).shell.hand = .counter →
          sector.val = (((s.head p).settings.angle : Int) - (a : Int)).emod 4096 * 12 / 4096))

/-- The completion of a record with a length, when enough strips are free: the missing strips up to the target are allocated, every OPEN strip is closed and judged, and the record becomes VOID when the length needs more than 1,024 stations or TRUNCATED stands, else COMPLETE with its verdict. It joins the completion order list, its notice is raised, its context ends, and every other record stays. A completion that runs out of strips, with nothing to evict: the free strips are all taken, POOL_SHORT is set with POOL_EXHAUSTED when it was clear, the strips are closed and judged, and the record becomes VOID with the verdict INCOMPLETE. In every other case too, the strip requests evicting as they may, the completion follows what they leave: with all of them met as in the first case, and with one that evicted and still found no strip as in the second. -/
def Obligations.CompletionFillsAndJudges : Prop :=
  (∀ (s : State) (i : Fin Config.slots) (length : Nat), (s.slot i).length = some length →
    let r := s.slot i
    let needed := (length + r.shell.pitch - 1) / r.shell.pitch
    let missing := min 1024 needed - r.strips.length
    let filled : Record := { r with
      history := if 1024 < needed then r.history ||| 0x004#10 else r.history
      strips := r.strips ++ List.replicate missing { state := .opened, kinds := 0, ecc := none } }
    let closed := filled.closeStrips (s.limit r.shell.limitSet) fun _ => true
    let subject := match r.shellId with
      | some id => Subject.shell id
      | none => .slot i r.generation
    missing ≤ s.freeStrips →
    let t := s.completeRecord i
    (∀ st ∈ (t.slot i).strips, st.state = .closed) ∧
    (t.slot i).strips.length = max r.strips.length (min 1024 needed) ∧
    t.slot i =
      (if 1024 < needed ∨ r.history.getLsbD 2 = true then { closed with state := .void, verdict := .incomplete }
       else { closed.giveVerdict (s.limit r.shell.limitSet) with state := .complete }) ∧
    t.notices =
      (if 1024 < needed ∨ r.history.getLsbD 2 = true then (s.raise .shellVoid subject).notices
       else (s.raise .shellComplete subject).notices) ∧
    (∀ j, j ≠ i → t.slot j = s.slot j) ∧
    t.completion = s.completion ++ [i] ∧
    t.freeStrips = s.freeStrips - missing ∧
    t.tracker = { s.tracker with
      contexts := s.tracker.contexts.filter fun c => decide (c.slot ≠ i), stallTimer := t.tracker.stallTimer } ∧
    (t.tracker.stallTimer = .running ↔ t.tracker.contexts ≠ [] ∨ t.tracker.blind = true) ∧
    t = { s with
      slots := t.slots, notices := t.notices, completion := t.completion, freeStrips := t.freeStrips,
      tracker := t.tracker }) ∧
  (∀ (s : State) (i : Fin Config.slots) (length : Nat), (s.slot i).length = some length →
    let r := s.slot i
    let needed := (length + r.shell.pitch - 1) / r.shell.pitch
    let subject := match r.shellId with
      | some id => Subject.shell id
      | none => .slot i r.generation
    s.freeStrips < min 1024 needed - r.strips.length →
    (s.eviction = false ∨ ∀ j ∈ s.completion, (s.slot j).rejudging = true ∨ (s.slot j).claims ≠ []) →
    let t := s.completeRecord i
    let u := if r.history.getLsbD 3 = true then s else s.raise .poolExhausted subject
    (t.slot i).state = .void ∧ (t.slot i).verdict = .incomplete ∧ (t.slot i).history.getLsbD 3 = true ∧
    (t.slot i).strips.length = r.strips.length + s.freeStrips ∧ (∀ st ∈ (t.slot i).strips, st.state = .closed) ∧
    t.freeStrips = 0 ∧ t.completion = s.completion ++ [i] ∧ t.notices = (u.raise .shellVoid subject).notices ∧
    t.tracker.contexts = s.tracker.contexts.filter (fun c => decide (c.slot ≠ i)) ∧
    (∀ j, j ≠ i → t.slot j = s.slot j)) ∧
  (∀ (s : State) (i : Fin Config.slots) (length : Nat), (s.slot i).length = some length →
    let r := s.slot i
    let needed := (length + r.shell.pitch - 1) / r.shell.pitch
    let sought := State.allocStrips (min 1024 needed - r.strips.length) i
      (s.setSlot i { r with history := if 1024 < needed then r.history ||| 0x004#10 else r.history })
    let u := sought.1
    let filled := u.slot i
    let l := u.limit filled.shell.limitSet
    let subject := match filled.shellId with
      | some id => Subject.shell id
      | none => .slot i filled.generation
    let t := s.completeRecord i
    (sought.2 = true →
      let closed := filled.closeStrips l fun _ => true
      t.slot i = (if filled.history.getLsbD 2 = true then { closed with state := .void, verdict := .incomplete }
        else { closed.giveVerdict l with state := .complete }) ∧
      t.notices = (u.raise (if filled.history.getLsbD 2 = true then .shellVoid else .shellComplete) subject).notices) ∧
    (sought.2 = false →
      t.slot i = { ({ filled with history := filled.history ||| 0x008#10 }).closeStrips l fun _ => true with
        state := .void, verdict := .incomplete } ∧
      t.notices = ((if filled.history.getLsbD 3 = true then u else u.raise .poolExhausted subject).raise .shellVoid
        subject).notices) ∧
    (∀ j, j ≠ i → t.slot j = u.slot j) ∧ t.completion = u.completion ++ [i] ∧
    t = { u with
      slots := t.slots, notices := t.notices, completion := t.completion
      tracker := { u.tracker with
        contexts := u.tracker.contexts.filter fun c => decide (c.slot ≠ i), stallTimer := t.tracker.stallTimer } } ∧
    (t.tracker.stallTimer = .running ↔ t.tracker.contexts ≠ [] ∨ t.tracker.blind = true))

/-- An advance pulse adds one to the advance count, passing from the greatest to 0; then, for each open context, the older first, the strips behind the rearmost head by the close distance are closed, and a FINISHING record whose tail has passed it by the close distance is completed. The rearmost head is one with the largest offset. -/
def Obligations.AdvanceCountsAndCloses : Prop :=
  ∀ (s : State) (rear : Int), (∃ p, (s.head p).settings.offset = rear) →
    (∀ p, (s.head p).settings.offset ≤ rear) →
    let counted : State := { s with tracker := { s.tracker with
      advance := s.tracker.advance + 1
      stallTimer := if s.tracker.contexts ≠ [] ∨ s.tracker.blind = true then .running else .stopped } }
    exec .advancePulse s = .next (s.tracker.contexts.foldl (fun u c =>
      let d : Int := (((s.tracker.advance + 1 - c.front).toNat * 1000 / s.tracker.settings.advanceScale : Nat) : Int) -
        (s.tracker.settings.headPlane : Int) - rear
      let r := u.slot c.slot
      let v := u.setSlot c.slot (r.closeStrips (u.limit r.shell.limitSet) fun k =>
        decide (((k : Int) + 1) * (r.shell.pitch : Int) + (s.tracker.settings.closeDistance : Int) < d))
      if c.role = .finishing ∧ ((r.length.getD 0 : Nat) : Int) + (s.tracker.settings.closeDistance : Int) < d
      then v.completeRecord c.slot else v) counted)

/-- A stall with a context or a blind passage open: every bound record, the older context's first, is flagged STALLED, has its OPEN strips closed and judged, becomes VOID with the verdict INCOMPLETE, joins the completion order list and raises SHELL_VOID; all passages end, the stall timer stops and STALL is raised once. With none open the event changes nothing: the model's choice (log entry 4). -/
def Obligations.StallVoidsRecords : Prop :=
  ∀ s : State,
    (s.tracker.contexts = [] → s.tracker.blind = false → exec .stall s = .next s) ∧
    (s.tracker.contexts ≠ [] ∨ s.tracker.blind = true → (s.tracker.contexts.map Context.slot).Nodup →
      ∃ t : State, exec .stall s = .next t ∧
        t.tracker = { s.tracker with contexts := [], blind := false, stallTimer := .stopped } ∧
        t.completion = s.completion ++ s.tracker.contexts.map Context.slot ∧
        (∀ c ∈ s.tracker.contexts, t.slot c.slot =
          { ({ s.slot c.slot with history := (s.slot c.slot).history ||| 0x002#10 }).closeStrips
              (s.limit (s.slot c.slot).shell.limitSet) (fun _ => true) with
            state := .void, verdict := .incomplete }) ∧
        (∀ i, (∀ c ∈ s.tracker.contexts, c.slot ≠ i) → t.slot i = s.slot i) ∧
        t.notices = ((s.tracker.contexts.foldl (fun u c => u.raise .shellVoid
          (match (s.slot c.slot).shellId with
            | some id => .shell id
            | none => .slot c.slot (s.slot c.slot).generation)) s).raise .stall .none).notices ∧
        t = { s with slots := t.slots, completion := t.completion, tracker := t.tracker, notices := t.notices })

/-- Spin: a spin pulse counts up, passing from 65,535 to 0; an index pulse sets the count to 0 and the state SYNCED, runs the spin timer, and in SYNCED counts a slip when the count differs from the pulses per revolution by more than their sixty-fourth part; the spin timeout in SYNCED gives UNSYNCED with the timer stopped and, with contexts open, flags their records and raises SPIN_LOST. The timeout in UNSYNCED changes nothing (log entry 4). -/
def Obligations.SpinKeepsTurn : Prop :=
  ∀ s : State,
    exec .spinPulse s = .next { s with tracker := { s.tracker with spinCount := s.tracker.spinCount + 1 } } ∧
    (∃ t : State, exec .indexPulse s = .next t ∧
      t = { s with tracker := { s.tracker with
        slips := t.tracker.slips, spinCount := 0, spin := .synced, spinTimer := .running } } ∧
      (s.tracker.spin = .synced →
        s.tracker.settings.spinPulses + s.tracker.settings.spinPulses / 64 < s.tracker.spinCount.toNat ∨
          s.tracker.spinCount.toNat + s.tracker.settings.spinPulses / 64 < s.tracker.settings.spinPulses →
        t.tracker.slips = min 65535 (s.tracker.slips + 1)) ∧
      (s.tracker.spin = .unsynced ∨
          (s.tracker.spinCount.toNat ≤ s.tracker.settings.spinPulses + s.tracker.settings.spinPulses / 64 ∧
            s.tracker.settings.spinPulses ≤ s.tracker.spinCount.toNat + s.tracker.settings.spinPulses / 64) →
        t.tracker.slips = s.tracker.slips)) ∧
    (s.tracker.spin = .unsynced → exec .spinTimeout s = .next s) ∧
    (s.tracker.spin = .synced → ∃ t : State, exec .spinTimeout s = .next t ∧
      t.tracker = { s.tracker with spin := .unsynced, spinTimer := .stopped } ∧
      (∀ i, (∃ c ∈ s.tracker.contexts, c.slot = i) →
        t.slot i = { s.slot i with history := (s.slot i).history ||| 0x001#10 }) ∧
      (∀ i, (∀ c ∈ s.tracker.contexts, c.slot ≠ i) → t.slot i = s.slot i) ∧
      t.notices = (if s.tracker.contexts = [] then s.notices else (s.raise .spinLost .none).notices) ∧
      t = { s with slots := t.slots, tracker := t.tracker, notices := t.notices })

/-! ## Head ports -/

/-- The four head commands on heads 1 to 6: HEAD SET changes the six settings of a DISABLED port alone and checks each in order; HEAD ENABLE takes a DISABLED port to IDLE; HEAD DISABLE empties, stops and clears a port; HEAD READ gives its values. Any other head number is refused RANGE. HEAD ENABLE and HEAD DISABLE leave an idle head line idle (log entry 13). -/
def Obligations.HeadCommandsAct : Prop :=
  ∀ (s : State) (h : Header) (n : Byte),
    let settings := fun (t : HeadSettings) => le 2 t.angle ++ leInt 2 t.offset ++ le 1 t.form.code ++ le 1 t.depth ++
      le 1 t.mode.code ++ le 1 t.silence
    ((n.toNat = 0 ∨ 6 < n.toNat) →
      (∀ f, s.Admits h rowHeadSet → exec (.headSet h n f) s = .next (s.frameIn.answered h 0x28 .range [0])) ∧
      (s.Admits h rowHeadEnable → exec (.headEnable h n) s = .next (s.frameIn.answered h 0x29 .range [0])) ∧
      (s.Admits h rowHeadDisable → exec (.headDisable h n) s = .next (s.frameIn.answered h 0x2A .range [0])) ∧
      (s.Admits h rowHeadRead → exec (.headRead h n) s = .next (s.frameIn.answered h 0x2B .range [0]))) ∧
    (∀ p : Fin Config.heads, n.toNat = p.val + 1 →
      let q := s.head p
      let held := settings q.settings
      let abandoned := if q.line = .idle then LineRun.idle else .ignoring
      (∀ f : HeadFields, s.Admits h rowHeadSet → exec (.headSet h n f) s = .next
        (let refused := fun k => s.frameIn.answered h 0x28 .range (k :: held)
        if q.state ≠ .disabled then s.frameIn.answered h 0x28 .state (0 :: held)
        else if 4095 < f.angle.toNat then refused 1
        else if f.offset.toInt < -200 ∨ 200 < f.offset.toInt then refused 2
        else if 1 < f.form.toNat then refused 3
        else if f.depth.toNat ≠ 1 ∧ f.depth.toNat ≠ 8 then refused 4
        else if 1 < f.mode.toNat then refused 5
        else if f.silence.toNat < 1 ∨ 250 < f.silence.toNat then refused 6
        else
          let t : HeadSettings :=
            { angle := f.angle.toNat, offset := f.offset.toInt, form := if f.form.toNat = 0 then .basic else .full,
              depth := f.depth.toNat, mode := if f.mode.toNat = 0 then .hold else .drop, silence := f.silence.toNat }
          (s.frameIn.setHead p { q with settings := t }).answered h 0x28 .done (settings t))) ∧
      (s.Admits h rowHeadEnable → exec (.headEnable h n) s = .next
        (if q.state ≠ .disabled then s.frameIn.answered h 0x29 .state [0]
         else (s.frameIn.setHead p { q with
          state := .idle, silenceTimer := .stopped, expected := none, line := abandoned
          ready := decide (q.settings.mode = .drop ∨ q.queue.length < q.settings.depth) }).answered h 0x29 .done [])) ∧
      (s.Admits h rowHeadDisable → exec (.headDisable h n) s = .next
        ((s.frameIn.setHead p
          (if q.state = .disabled then { q with counters := Vector.replicate 14 0, line := abandoned }
           else { q with
            state := .disabled, queue := [], silenceTimer := .stopped, expected := none, ready := false
            counters := Vector.replicate 14 0, line := abandoned })).answered h 0x2A .done [])) ∧
      (s.Admits h rowHeadRead → exec (.headRead h n) s = .next (s.frameIn.answered h 0x2B .done
        (le 1 q.state.code ++ held ++ le 1 q.queue.length ++ le 1 (if q.expected.isSome then 1 else 0) ++
          le 1 ((q.expected.map BitVec.toNat).getD 0) ++ le 1 (if q.ready then 1 else 0) ++
          q.counters.toList.flatMap (le 2)))))

/-- A valid report on an idle line of an enabled port: the sequence gap joins MISSED and the expected sequence follows; a full queue discards the report with OVERRUN and HEAD_OVERRUN, otherwise the report joins the queue's tail with its stamp; in both cases the port is RUNNING with its silence timer running, and nothing else changes. -/
def Obligations.ReportsReachQueue : Prop :=
  ∀ (s : State) (p : Fin Config.heads) (octets : List Byte),
    let q := s.head p
    q.state ≠ .disabled → q.line = .idle → octets.length = (if q.settings.form = .basic then 5 else 7) →
    octets.foldl (· + ·) 0 = 255 →
    let sequence := octets.getD 0 0
    let gap := match q.expected with
      | none => 0
      | some e => (sequence - e).toNat
    let missed := q.counters.set HeadCounter.missed.idx (min 65535 (q.counters[HeadCounter.missed.idx] + gap))
    let after : HeadPort := { q with
      state := .running, silenceTimer := .running, expected := some (sequence + 1), line := .spent false false }
    (q.settings.depth ≤ q.queue.length →
      exec (.headReport p octets) s = .next ((s.setHead p { after with
        counters := missed.set HeadCounter.overrun.idx (min 65535 (missed[HeadCounter.overrun.idx] + 1))
        ready := decide (q.settings.mode = .drop) }).raise .headOverrun (.head (p.val + 1)))) ∧
    (q.queue.length < q.settings.depth →
      exec (.headReport p octets) s = .next (s.setHead p { after with
        counters := missed
        queue := q.queue ++ [{
          sequence, interval := (octets.getD 1 0).toNat + 256 * (octets.getD 2 0).toNat
          amplitude := (octets.getD 3 0).toNat
          temperature := if q.settings.form = .basic then none
            else some ((octets.getD 4 0).toNat + 256 * (octets.getD 5 0).toNat)
          stamp := s.stamp p }]
        ready := decide (q.settings.mode = .drop ∨ q.queue.length + 1 < q.settings.depth) }))

/-- Runs that are no report. While a port ignores octets they change nothing. A gap of 20 idle bit times ends the ignoring or the run, counting a short run and the continuation of a report CORRUPT, and a DISABLED port's run STRAY. A short run, and a run whose first octets up to the form's length hold a framing fault or a bad sum, is one CORRUPT in all; a valid report that is continued is the report and then one CORRUPT (R50; the run's end stands with the octets, log entry 24). The silence time of a RUNNING port runs out: with a context open the port is SILENT, every bound record is flagged HEAD_SILENT and the notice is raised for the head; with none the port is IDLE without a notice. In another port state the event changes nothing (log entry 4). -/
def Obligations.RunsAndSilenceAreCounted : Prop :=
  (∀ (s : State) (p : Fin Config.heads),
    let q := s.head p
    let counted := fun (r : HeadPort) (c : HeadCounter) =>
      { r with counters := r.counters.set c.idx (min 65535 (r.counters[c.idx] + 1)) }
    let needed := if q.settings.form = .basic then 5 else 7
    (q.line = .ignoring → (∀ octets, exec (.headReport p octets) s = .next s) ∧
      exec (.lineIdleGap p) s = .next (s.setHead p { q with line := .idle })) ∧
    (q.line = .idle → exec (.lineIdleGap p) s = .next s) ∧
    (∀ octets fault, q.line = .gathering octets fault →
      exec (.lineIdleGap p) s = .next (s.setHead p { counted q .corrupt with line := .idle })) ∧
    (∀ before extra, q.line = .spent before extra → exec (.lineIdleGap p) s =
      .next (s.setHead p { (if before = false ∧ extra = true then counted q .corrupt else q) with line := .idle })) ∧
    (q.line = .stray → exec (.lineIdleGap p) s = .next (s.setHead p { counted q .stray with line := .idle })) ∧
    (∀ octets : List RunOctet, octets ≠ [] → q.line = .idle →
      (q.state = .disabled →
        exec (.stray p octets) s = .next (s.setHead p { counted q .stray with line := .idle })) ∧
      (q.state ≠ .disabled → octets.length < needed →
        exec (.corrupt p octets) s = .next (s.setHead p { counted q .corrupt with line := .idle })) ∧
      (q.state ≠ .disabled → needed ≤ octets.length →
        ((octets.take needed).any RunOctet.fault = true ∨
          ((octets.take needed).map RunOctet.value).foldl (· + ·) 0 ≠ 255) →
        exec (.corrupt p octets) s = .next (s.setHead p { counted q .corrupt with
          line := .spent true (decide (needed < octets.length)) })) ∧
      (q.state ≠ .disabled → needed < octets.length → (octets.take needed).any RunOctet.fault = false →
        ((octets.take needed).map RunOctet.value).foldl (· + ·) 0 = 255 →
        ∃ t : State, exec (.headReport p ((octets.take needed).map RunOctet.value)) s = .next t ∧
          exec (.corrupt p octets) s = .next (t.setHead p { counted (t.head p) .corrupt with line := .idle })))) ∧
  (∀ (s : State) (p : Fin Config.heads),
    ((s.head p).state ≠ .running → exec (.silenceTimeout p) s = .next s) ∧
    ((s.head p).state = .running → s.tracker.contexts = [] →
      exec (.silenceTimeout p) s = .next (s.setHead p { s.head p with state := .idle, silenceTimer := .stopped })) ∧
    ((s.head p).state = .running → s.tracker.contexts ≠ [] → ∃ t : State,
      exec (.silenceTimeout p) s = .next t ∧
      t.head p = { s.head p with state := .silent, silenceTimer := .stopped } ∧
      (∀ k, k ≠ p → t.head k = s.head k) ∧
      (∀ i, (∃ c ∈ s.tracker.contexts, c.slot = i) →
        t.slot i = { s.slot i with history := (s.slot i).history ||| 0x020#10 }) ∧
      (∀ i, (∀ c ∈ s.tracker.contexts, c.slot ≠ i) → t.slot i = s.slot i) ∧
      t.notices = (s.raise .headSilent (.head (p.val + 1))).notices ∧
      t = { s with slots := t.slots, heads := t.heads, notices := t.notices }))

/-! ## The shot engine and the way to a thickness -/

/-- SHOT_SERVICE with every queue empty changes nothing: the model's choice (log entry 4). Otherwise the shot engine takes the first report of the first non-empty queue after its pointer, the queue and its ready line follow, the pointer becomes that head, and the report's steps follow: UNPLACED, ORPHAN, BEYOND, LATE, or classification in its strip. Missing strips are allocated first, the requests evicting as they may; when one finds none, whatever was evicted, the report is counted POOL and POOL_SHORT is set, with POOL_EXHAUSTED when it was clear. -/
def Obligations.ShotServiceTakesReport : Prop :=
  ∀ s : State,
    ((∀ p, (s.head p).queue = []) → exec .shotService s = .next s) ∧
    (∀ (p : Fin Config.heads) (rep : Report) (rest : List Report), (s.head p).queue = rep :: rest →
      (∀ k : Fin Config.heads, k - s.pointer - 1 < p - s.pointer - 1 → (s.head k).queue = []) →
      let taken : State := { s.setHead p { s.head p with
        queue := rest
        ready := decide ((s.head p).state ≠ .disabled ∧
          ((s.head p).settings.mode = .drop ∨ rest.length < (s.head p).settings.depth)) } with pointer := p }
      (rep.stamp = .unplaced → exec .shotService s = .next (taken.countHead p .unplaced)) ∧
      (∀ i generation station angle sector, rep.stamp = .placed i generation station angle sector →
        let r := s.slot i
        let serves := (r.state = .measuring ∨ r.state = .finishing) ∧ r.generation = generation
        (¬serves → exec .shotService s = .next (taken.countHead p .orphan)) ∧
        (serves → 1024 ≤ station → exec .shotService s = .next
          ((taken.countHead p .beyond).setSlot i { r with history := r.history ||| 0x004#10 })) ∧
        (∀ st, serves → station < 1024 → r.strips[station]? = some st → st.state = .closed →
          exec .shotService s = .next
            ((taken.countHead p .late).setSlot i { r with late := min 65535 (r.late + 1) })) ∧
        (∀ st, serves → station < 1024 → r.strips[station]? = some st → st.state = .opened →
          exec .shotService s = .next (taken.classify p rep i station sector)) ∧
        (serves → station < 1024 → r.strips.length ≤ station → station + 1 - r.strips.length ≤ s.freeStrips →
          exec .shotService s = .next (State.classify
            { taken.setSlot i { r with
                strips := r.strips ++
                  List.replicate (station + 1 - r.strips.length) { state := .opened, kinds := 0, ecc := none } } with
              freeStrips := s.freeStrips - (station + 1 - r.strips.length) } p rep i station sector)) ∧
        (serves → station < 1024 → s.freeStrips < station + 1 - r.strips.length →
          (s.eviction = false ∨ ∀ j ∈ s.completion, (s.slot j).rejudging = true ∨ (s.slot j).claims ≠ []) →
          let short := State.setSlot { taken.countHead p .pool with freeStrips := 0 } i { r with
            history := r.history ||| 0x008#10
            strips := r.strips ++ List.replicate s.freeStrips { state := .opened, kinds := 0, ecc := none } }
          exec .shotService s = .next (if r.history.getLsbD 3 = true then short else short.raise .poolExhausted
            (match r.shellId with
              | some id => .shell id
              | none => .slot i r.generation))) ∧
        (serves → station < 1024 → r.strips.length ≤ station →
          let sought := State.allocStrips (station + 1 - r.strips.length) i taken
          let u := sought.1
          let left := u.slot i
          let short := State.setSlot (u.countHead p .pool) i { left with history := left.history ||| 0x008#10 }
          (sought.2 = true → exec .shotService s = .next (u.classify p rep i station sector)) ∧
          (sought.2 = false → exec .shotService s = .next (if left.history.getLsbD 3 = true then short
            else short.raise .poolExhausted (match left.shellId with
              | some id => .shell id
              | none => .slot i left.generation))))))

/-- A report with its strip, against the record's material entry: NO_ECHO, SATURATED, WEAK or GOOD is counted against its head; the first two are rejected; the others take a temperature, clamped to the entry's range with CLAMPED, a velocity and a thickness truncated at each division, and are rejected outside the window with WINDOW, or when WEAK without ACCEPT_WEAK, and otherwise accepted into their cell; the record's counts follow. -/
def Obligations.ShotsClassifyAndConvert : Prop :=
  ∀ (s : State) (p : Fin Config.heads) (rep : Report) (i : Fin Config.slots) (station : Nat)
    (sector : Fin Config.sectors) (m : MaterialFields), (s.material (s.slot i).shell.grade).fields = some m →
    let r := s.slot i
    let rejected := fun (x : Record) =>
      { x.modCell station sector (fun c => { c with rejected := min 255 (c.rejected + 1) }) with
        rejected := min 65535 (x.rejected + 1) }
    (rep.interval = 0 ∨ rep.amplitude < m.echoFloor →
      s.classify p rep i station sector = (s.countHead p .noEcho).setSlot i (rejected r)) ∧
    (rep.interval ≠ 0 → m.echoFloor ≤ rep.amplitude → rep.amplitude = 255 →
      s.classify p rep i station sector = (s.countHead p .saturated).setSlot i (rejected r)) ∧
    (rep.interval ≠ 0 → m.echoFloor ≤ rep.amplitude → rep.amplitude ≠ 255 →
      let weak := rep.amplitude < m.weak
      let seen := s.countHead p (if weak then .weak else .good)
      let chosen := (rep.temperature.or r.lastTemp).getD m.tref
      let used := if chosen < m.tmin then m.tmin else if m.tmax < chosen then m.tmax else chosen
      let thickness := (m.v0 - m.k * used / 100) * rep.interval / 2000
      let heated : Record := { r with
        history := if used = chosen then r.history else r.history ||| 0x010#10
        lastTemp := if rep.temperature.isSome then some used else r.lastTemp }
      let l := s.limit r.shell.limitSet
      s.classify p rep i station sector =
        if thickness < r.shell.nominal / 2 ∨ r.shell.nominal * 3 / 2 < thickness then
          (seen.countHead p .window).setSlot i (rejected heated)
        else if weak ∧ l.controls.getLsbD 1 = false then seen.setSlot i (rejected heated)
        else seen.setSlot i
          { heated.modCell station sector (fun c => c.accept l r.shell.nominal thickness) with
            accepted := min 65535 (r.accepted + 1) })

/-! ## Cells, strips and limits -/

/-- An accepted shot in its cell: an EMPTY cell opens with the need of the settle count, 0 taken as 15; count and sum rise while the count is below 255; the extremes and the deviation of greatest magnitude follow, the first of equal ones staying; the need falls and at 0 the cell is SETTLED; a SETTLED cell's outcome is computed afresh. -/
def Obligations.CellsTakeAcceptedShots : Prop :=
  ∀ (c : Cell) (l : LimitSet) (nominal thickness : Nat),
    let t := c.accept l nominal thickness
    let deviation : Int := (thickness : Int) - (nominal : Int)
    let need := if c.state = .empty then (if l.settle = 0 then 15 else l.settle) else c.need
    t.rejected = c.rejected ∧ t.noisy = c.noisy ∧
    (c.accepted < 255 → t.accepted = c.accepted + 1 ∧ t.sum = c.sum + thickness) ∧
    (255 ≤ c.accepted → t.accepted = c.accepted ∧ t.sum = c.sum) ∧
    (c.state = .empty → t.min = thickness ∧ t.max = thickness ∧ t.worst = deviation) ∧
    (c.state ≠ .empty → t.min = min c.min thickness ∧ t.max = max c.max thickness ∧
      t.worst = if c.worst.natAbs < deviation.natAbs then deviation else c.worst) ∧
    (c.state = .empty ∨ c.state = .opened →
      (need ≤ 1 → t.state = .settled ∧ t.need = 0 ∧ t.outcome = l.judgeCell nominal t) ∧
      (1 < need → t.state = .opened ∧ t.need = need - 1 ∧ t.outcome = c.outcome)) ∧
    (c.state = .settled → t.state = .settled ∧ t.need = c.need ∧ t.outcome = l.judgeCell nominal t)

/-- The limits of a nominal wall, and the outcome of a cell against them: in EXTREME mode by its least and greatest thickness, in MEAN mode by its mean, never THIN and THICK at once; a value at a limit passes. -/
def Obligations.LimitsJudgeCells : Prop :=
  ∀ (l : LimitSet) (nominal : Nat) (c : Cell),
    let lower := nominal - nominal * l.lower / 1000
    let upper := nominal + nominal * l.upper / 1000
    l.lowerLimit nominal = lower ∧ l.upperLimit nominal = upper ∧
    (l.controls.getLsbD 0 = true →
      (lower ≤ c.min → c.max ≤ upper → l.judgeCell nominal c = .pass) ∧
      (c.min < lower → c.max ≤ upper → l.judgeCell nominal c = .thin) ∧
      (lower ≤ c.min → upper < c.max → l.judgeCell nominal c = .thick) ∧
      (c.min < lower → upper < c.max → l.judgeCell nominal c = .thinThick)) ∧
    (l.controls.getLsbD 0 = false → l.judgeCell nominal c ≠ .thinThick ∧
      (lower ≤ c.sum / c.accepted → c.sum / c.accepted ≤ upper → l.judgeCell nominal c = .pass) ∧
      (c.sum / c.accepted < lower → l.judgeCell nominal c = .thin) ∧
      (upper < c.sum / c.accepted → l.judgeCell nominal c = .thick))

/-- The close of an OPEN strip, and its judgement: every EMPTY cell becomes GAP and every OPEN one SPARSE, the noisy mark says whether more shots were rejected than accepted, only SETTLED cells have an outcome, the eccentricity is (greatest mean − least mean) × 1,000 ÷ (greatest + least) with enough SETTLED cells and absent with fewer, and the strip is CLOSED; a station before the lead crop is CROP and nothing else; any other strip takes its kinds, sets derived flags, and with a kind offers its zone candidate. A CLOSED strip and a missing one stay. The worst deviation of a strip's zone candidate: a deviation of greatest magnitude among the cells with accepted shots, that of the lowest sector on a tie, and 0 without such a cell. -/
def Obligations.StripsCloseWithWorstDeviation : Prop :=
  (∀ (r : Record) (l : LimitSet) (k : Nat),
    (∀ st, r.strips[k]? = some st → st.state = .closed → r.closeStrip l k = r) ∧
    (r.strips.length ≤ k → r.closeStrip l k = r) ∧
    (∀ st, r.strips[k]? = some st → st.state = .opened →
      ∃ (cells : Vector Cell Config.sectors) (ecc : Option Nat),
        (∀ j : Fin Config.sectors, ∃ o, cells[j] = { st.cells[j] with
            state := (match st.cells[j].state with
              | .empty => .gap
              | .opened => .sparse
              | x => x)
            noisy := decide (st.cells[j].accepted < st.cells[j].rejected), outcome := o } ∧
          (st.cells[j].state = .settled → o = l.judgeCell r.shell.nominal st.cells[j]) ∧
          (st.cells[j].state ≠ .settled → o = .none)) ∧
        (let means := (st.cells.toList.filter fun c => decide (c.state = .settled)).map fun c => c.sum / c.accepted
         (means.length < l.eccCells ∨ means = [] → ecc = none) ∧
         (∀ greatest least, greatest ∈ means → least ∈ means → (∀ v ∈ means, least ≤ v ∧ v ≤ greatest) →
           l.eccCells ≤ means.length → ecc = some ((greatest - least) * 1000 / (greatest + least)))) ∧
        (k < r.shell.leadCrop → r.closeStrip l k =
          { r with strips := r.strips.set k { state := .closed, kinds := 0x10#5, ecc, cells } }) ∧
        (r.shell.leadCrop ≤ k → ∃ (kinds : BitVec 5) (flags : BitVec 5),
          kinds.getLsbD 0 = cells.toList.any (fun c => decide (c.outcome = .thin ∨ c.outcome = .thinThick)) ∧
          kinds.getLsbD 1 = cells.toList.any (fun c => decide (c.outcome = .thick ∨ c.outcome = .thinThick)) ∧
          (kinds.getLsbD 2 = true ↔ ∃ e, ecc = some e ∧ 0 < l.eccLimit ∧ l.eccLimit < e) ∧
          kinds.getLsbD 3 = (l.controls.getLsbD 2 &&
            (cells.toList.any (fun c => decide (c.state = .gap ∨ c.state = .sparse)) ||
              (l.controls.getLsbD 3 && cells.toList.any Cell.noisy))) ∧
          kinds.getLsbD 4 = false ∧
          (∀ b, b < 4 → flags.getLsbD b = kinds.getLsbD b) ∧ flags.getLsbD 4 = cells.toList.any Cell.noisy ∧
          r.closeStrip l k =
            (let judged : Record := { r with
              strips := r.strips.set k { state := .closed, kinds, ecc, cells }, derived := r.derived ||| flags }
            if kinds = 0 then judged else judged.offer
              { first := max (k - l.guard) r.shell.leadCrop, last := min (k + l.guard) 1023
                kinds := kinds.setWidth 4, worst := Strip.worst { state := .closed, kinds, ecc, cells } })))) ∧
  ((∀ st : Strip,
    ((∀ k : Fin Config.sectors, st.cells[k].accepted = 0) → st.worst = 0) ∧
    (∀ k : Fin Config.sectors, 0 < st.cells[k].accepted →
      (∀ j : Fin Config.sectors, 0 < st.cells[j].accepted → st.cells[j].worst.natAbs ≤ st.cells[k].worst.natAbs) →
      (∀ j : Fin Config.sectors, j < k → 0 < st.cells[j].accepted →
        st.cells[j].worst.natAbs < st.cells[k].worst.natAbs) →
      st.worst = st.cells[k].worst)))

/-! ## Zones and verdicts -/

/-- A candidate at a zone list in order: it becomes the first zone, or a new last zone while there are fewer than 16, or is merged into the last zone with ZONES_MERGED when there are 16; one that starts at most one station past the last zone is merged with it, the lesser first station, the greater last, the kinds of both and the deviation of greater magnitude, that of the zone on a tie; a zone so widened that starts at most one station past the zone before it is merged with that one in the same way, into one zone that keeps the earlier zone's first station (log entry 7). -/
def Obligations.ZonesTakeCandidates : Prop :=
  ∀ (r : Record) (c : Zone), r.ZonesOrdered → c.first ≤ c.last → c.last ≤ 1023 →
    (r.zones = [] → r.offer c = { r with zones := [c] }) ∧
    (r.zones ≠ [] → (∀ z ∈ r.zones, z.last + 1 < c.first) → r.zones.length < 16 →
      r.offer c = { r with zones := r.zones ++ [c] }) ∧
    (∀ before z, r.zones = before ++ [z] → (∀ y ∈ r.zones, y.last + 1 < c.first) → 16 ≤ r.zones.length →
      r.offer c = { r with
        zones := before ++ [{ first := z.first, last := c.last, kinds := z.kinds ||| c.kinds
                              worst := if z.worst.natAbs < c.worst.natAbs then c.worst else z.worst }]
        history := r.history ||| 0x080#10 }) ∧
    (∀ before z, r.zones = before ++ [z] → c.first ≤ z.last + 1 →
      let w : Zone :=
        { first := min z.first c.first, last := max z.last c.last, kinds := z.kinds ||| c.kinds
          worst := if z.worst.natAbs < c.worst.natAbs then c.worst else z.worst }
      ((∀ y ∈ before, y.last + 1 < w.first) → r.offer c = { r with zones := before ++ [w] }) ∧
      (∀ earlier p, before = earlier ++ [p] → w.first ≤ p.last + 1 →
        r.offer c = { r with zones := earlier ++ [{
          first := p.first, last := max p.last w.last, kinds := p.kinds ||| w.kinds
          worst := if p.worst.natAbs < w.worst.natAbs then w.worst else p.worst }] }))

/-- The trimming and the verdict of a record: zones that start past station N − 1 − tail crop are removed and the rest end there at most; with no judged station the verdict is REJECT and TOO_SHORT is set; without zones it is ACCEPT; otherwise it is CUT when the longest run of judged stations in no zone is as long as the limit set asks in mm and not empty, and REJECT when it is not. -/
def Obligations.VerdictsFollowZones : Prop :=
  ∀ (r : Record) (l : LimitSet),
    let bound : Int := (r.strips.length : Int) - 1 - (r.shell.tailCrop : Int)
    let judged : Int := (r.strips.length : Int) - (r.shell.leadCrop : Int) - (r.shell.tailCrop : Int)
    let zones := (r.zones.filter fun z => decide ((z.first : Int) ≤ bound)).map fun z =>
      { z with last := min z.last bound.toNat }
    let sound := fun (start length : Nat) => r.shell.leadCrop ≤ start ∧
      ((start + length : Nat) : Int) ≤ (r.shell.leadCrop : Int) + judged ∧
      ∀ k, start ≤ k → k < start + length → ∀ z ∈ zones, k < z.first ∨ z.last < k
    let long := ∃ start length, sound start length ∧ 1 ≤ length ∧ l.minGood ≤ length * r.shell.pitch
    ∃ v : Verdict,
      r.giveVerdict l = { r with
        zones, verdict := v, history := if judged < 1 then r.history ||| 0x100#10 else r.history } ∧
      (judged < 1 → v = .reject) ∧
      (1 ≤ judged → zones = [] → v = .accept) ∧
      (1 ≤ judged → zones ≠ [] → long → v = .cut) ∧
      (1 ≤ judged → zones ≠ [] → ¬long → v = .reject)

/-! ## Materials, limit sets and the pool -/

/-- MATERIAL WRITE defines an unreferenced entry when each of its eight values passes in order, MATERIAL CLEAR makes an unreferenced entry EMPTY, and MATERIAL READ gives an entry; a referenced entry is IN_USE, an entry number above 31 and a value out of range are RANGE; WRITE's replies give the entry held. -/
def Obligations.MaterialCommandsAct : Prop :=
  ∀ (s : State) (h : Header) (n : Byte),
    let body := fun (m : Material) =>
      let v := m.fields.getD { gradeCode := 0, v0 := 0, k := 0, tmin := 0, tref := 0, tmax := 0, echoFloor := 0, weak := 0 }
      le 1 (if m.fields.isSome then 1 else 0) ++ le 2 v.gradeCode ++ le 2 v.v0 ++ le 1 v.k ++ le 2 v.tmin ++ le 2 v.tref ++
        le 2 v.tmax ++ le 1 v.echoFloor ++ le 1 v.weak ++ le 1 m.refs
    (31 < n.toNat →
      (∀ f, s.Admits h rowMaterialWrite →
        exec (.materialWrite h n f) s = .next (s.frameIn.answered h 0x30 .range [0])) ∧
      (s.Admits h rowMaterialClear → exec (.materialClear h n) s = .next (s.frameIn.answered h 0x31 .range [0])) ∧
      (s.Admits h rowMaterialRead → exec (.materialRead h n) s = .next (s.frameIn.answered h 0x32 .range [0]))) ∧
    (∀ g : Fin Config.materials, n.toNat = g.val →
      let m := s.material g
      (∀ f : MaterialValues, s.Admits h rowMaterialWrite → exec (.materialWrite h n f) s = .next
        (let refused := fun k => s.frameIn.answered h 0x30 .range (k :: body m)
        if 0 < m.refs then s.frameIn.answered h 0x30 .inUse (0 :: body m)
        else if f.v0.toNat < 4000 ∨ 7000 < f.v0.toNat then refused 2
        else if 200 < f.k.toNat then refused 3
        else if 1400 < f.tmin.toNat then refused 4
        else if f.tref.toNat < f.tmin.toNat ∨ 1400 < f.tref.toNat then refused 5
        else if f.tmax.toNat < f.tref.toNat ∨ 1400 < f.tmax.toNat then refused 6
        else if 254 < f.echoFloor.toNat then refused 7
        else if f.weak.toNat < f.echoFloor.toNat ∨ 254 < f.weak.toNat then refused 8
        else
          let defined : Material := { m with fields := some {
            gradeCode := f.gradeCode.toNat, v0 := f.v0.toNat, k := f.k.toNat, tmin := f.tmin.toNat,
            tref := f.tref.toNat, tmax := f.tmax.toNat, echoFloor := f.echoFloor.toNat, weak := f.weak.toNat } }
          (s.frameIn.setMaterial g defined).answered h 0x30 .done (body defined))) ∧
      (s.Admits h rowMaterialClear → exec (.materialClear h n) s = .next
        (if 0 < m.refs then s.frameIn.answered h 0x31 .inUse [0]
         else (s.frameIn.setMaterial g { m with fields := none }).answered h 0x31 .done [])) ∧
      (s.Admits h rowMaterialRead →
        exec (.materialRead h n) s = .next (s.frameIn.answered h 0x32 .done (body m))))

/-- LIMIT WRITE with its masks inside the four controls and its selected values in range replaces the selected values of one set, the controls becoming those kept joined with those put; the first failing mask, else the first failing value, is refused RANGE by its number; a set number above 3 is RANGE; replies give the set held. -/
def Obligations.LimitWriteReplacesSelected : Prop :=
  ∀ (s : State) (h : Header) (n : Byte) (f : LimitFields), s.Admits h rowLimitWrite →
    let body := fun (l : LimitSet) => le 2 l.lower ++ le 2 l.upper ++ le 2 l.eccLimit ++ le 1 l.settle ++
      le 1 l.eccCells ++ le 1 l.guard ++ le 2 l.minGood ++ le 1 l.controls.toNat
    (3 < n.toNat → exec (.limitWrite h n f) s = .next (s.frameIn.answered h 0x40 .range [0])) ∧
    (∀ k : Fin Config.limitSets, n.toNat = k.val →
      let l := s.limit k
      exec (.limitWrite h n f) s = .next
        (let refused := fun b => s.frameIn.answered h 0x40 .range (b :: body l)
        if 16 ≤ f.keep.toNat then refused 8
        else if 16 ≤ f.put.toNat then refused 9
        else if (f.lower.any fun v => decide (500 < v.toNat)) = true then refused 1
        else if (f.upper.any fun v => decide (500 < v.toNat)) = true then refused 2
        else if (f.ecc.any fun v => decide (500 < v.toNat)) = true then refused 3
        else if (f.settle.any fun v => decide (15 < v.toNat)) = true then refused 4
        else if (f.eccCells.any fun v => decide ((v.toNat < 3 ∨ 12 < v.toNat))) = true then refused 5
        else if (f.guard.any fun v => decide (7 < v.toNat)) = true then refused 6
        else if (f.minGood.any fun v => decide (20000 < v.toNat)) = true then refused 7
        else
          let t : LimitSet :=
            { lower := (f.lower.map BitVec.toNat).getD l.lower, upper := (f.upper.map BitVec.toNat).getD l.upper
              eccLimit := (f.ecc.map BitVec.toNat).getD l.eccLimit, settle := (f.settle.map BitVec.toNat).getD l.settle
              eccCells := (f.eccCells.map BitVec.toNat).getD l.eccCells, guard := (f.guard.map BitVec.toNat).getD l.guard
              minGood := (f.minGood.map BitVec.toNat).getD l.minGood
              controls := (l.controls &&& f.keep.setWidth 4) ||| f.put.setWidth 4 }
          (s.frameIn.setLimit k t).answered h 0x40 .done (body t)))

/-- LIMIT READ gives the set's values and controls as they stand and changes nothing; a set number above 3 is refused RANGE. -/
def Obligations.LimitReadAnswersSet : Prop :=
  ∀ (s : State) (h : Header) (n : Byte), s.Admits h rowLimitRead →
    (3 < n.toNat → exec (.limitRead h n) s = .next (s.frameIn.answered h 0x41 .range [0])) ∧
    (∀ k : Fin Config.limitSets, n.toNat = k.val → exec (.limitRead h n) s = .next
      (s.frameIn.answered h 0x41 .done
        (le 2 (s.limit k).lower ++ le 2 (s.limit k).upper ++ le 2 (s.limit k).eccLimit ++ le 1 (s.limit k).settle ++
          le 1 (s.limit k).eccCells ++ le 1 (s.limit k).guard ++ le 2 (s.limit k).minGood ++
          le 1 (s.limit k).controls.toNat)))

/-- POOL STATUS gives the free count and the eviction setting and changes nothing; POOL SET sets the eviction setting OFF by 0 and ON by 1, and refuses any other value RANGE, its replies giving the setting in force (the field octet is read from R199 and R204, log entry 12). -/
def Obligations.PoolCommandsAct : Prop :=
  ∀ (s : State) (h : Header),
    (s.Admits h rowPoolStatus → exec (.poolStatus h) s =
      .next (s.frameIn.answered h 0x38 .done (le 2 s.freeStrips ++ [if s.eviction then 1 else 0]))) ∧
    (∀ b : Byte, s.Admits h rowPoolSet →
      (b = 0 → exec (.poolSet h b) s =
        .next (State.answered { s.frameIn with eviction := false } h 0x39 .done [0])) ∧
      (b = 1 → exec (.poolSet h b) s =
        .next (State.answered { s.frameIn with eviction := true } h 0x39 .done [1])) ∧
      (b ≠ 0 → b ≠ 1 → exec (.poolSet h b) s =
        .next (s.frameIn.answered h 0x39 .range [1, if s.eviction then 1 else 0])))

/-! ## Reading strips and zones -/

/-- READ STRIPS of a record that is not REJUDGING gives the strips from the first station on, as many as asked for and exist, in the SUMMARY form of 40 octets or the FULL form of 118; its checks fail in the order BUSY, form, count, first station; it changes nothing. READ ZONES gives the zone list, or BUSY, and changes nothing. -/
def Obligations.StripsAndZonesAreRead : Prop :=
  ∀ (s : State) (h : Header) (ref : RecordRef) (i : Fin Config.slots), s.resolve ref = .ok i →
    let r := s.slot i
    let header := fun (st : Strip) (k : Nat) =>
      le 2 (k % 1024 + 1024 * st.state.code + 2048 * st.kinds.toNat) ++
        le 2 (st.ecc.getD 0 % 512 + 32768 * (if st.ecc.isSome then 1 else 0))
    (∀ (form : Byte) (first : Half) (count : Byte), s.Admits h rowReadStrips →
      let stations := List.range' first.toNat (min count.toNat (r.strips.length - first.toNat))
      (r.rejudging = true →
        exec (.readStrips h ref form first count) s = .next (s.frameIn.answered h 0x3A .busy [0])) ∧
      (r.rejudging = false → 1 < form.toNat →
        exec (.readStrips h ref form first count) s = .next (s.frameIn.answered h 0x3A .range [1])) ∧
      (r.rejudging = false → form.toNat ≤ 1 →
        count.toNat < 1 ∨ (if form.toNat = 0 then 6 else 2) < count.toNat →
        exec (.readStrips h ref form first count) s = .next (s.frameIn.answered h 0x3A .range [3])) ∧
      (r.rejudging = false → form.toNat ≤ 1 → 1 ≤ count.toNat → count.toNat ≤ (if form.toNat = 0 then 6 else 2) →
        r.strips.length ≤ first.toNat →
        exec (.readStrips h ref form first count) s = .next (s.frameIn.answered h 0x3A .range [2])) ∧
      (r.rejudging = false → form.toNat = 0 → 1 ≤ count.toNat → count.toNat ≤ 6 → first.toNat < r.strips.length →
        exec (.readStrips h ref form first count) s = .next (s.frameIn.answered h 0x3A .done
          (le 1 i ++ [r.generation, 0] ++ le 1 stations.length ++ stations.flatMap fun k =>
            let st := r.strips.getD k { state := .opened, kinds := 0, ecc := none }
            header st k ++ st.cells.toList.flatMap fun c =>
              le 3 ((c.sum / c.accepted) % 262144 + 262144 * c.state.code)))) ∧
      (r.rejudging = false → form.toNat = 1 → 1 ≤ count.toNat → count.toNat ≤ 2 → first.toNat < r.strips.length →
        exec (.readStrips h ref form first count) s = .next (s.frameIn.answered h 0x3A .done
          (le 1 i ++ [r.generation, 1] ++ le 1 stations.length ++ le 4 r.shell.nominal ++ stations.flatMap fun k =>
            let st := r.strips.getD k { state := .opened, kinds := 0, ecc := none }
            header st k ++ le 114 ((st.cells.toList.map fun c =>
              let base := r.shell.nominal / 2
              let above := fun v => (if c.accepted = 0 then 0 else v - base) % 131072
              cellCode c.state c.outcome % 8 + 2 ^ 3 * (c.need % 16) + 2 ^ 7 * (if c.noisy then 1 else 0) +
                2 ^ 8 * (if c.accepted ≠ 0 ∧ c.worst ≠ (c.min : Int) - (r.shell.nominal : Int) then 1 else 0) +
                2 ^ 9 * (c.accepted % 256) + 2 ^ 17 * (c.rejected % 256) + 2 ^ 25 * above c.min +
                2 ^ 42 * above c.max + 2 ^ 59 * above (c.sum / c.accepted)).foldr (fun v rest => v + 2 ^ 76 * rest) 0))))) ∧
    (s.Admits h rowReadZones → exec (.readZones h ref) s = .next
      (if r.rejudging = true then s.frameIn.answered h 0x42 .busy [0]
       else s.frameIn.answered h 0x42 .done
        (le 1 i ++ [r.generation] ++ le 1 r.state.code ++ le 1 r.verdict.code ++ le 1 r.zones.length ++
          r.zones.flatMap fun z => le 2 z.first ++ le 2 z.last ++ le 1 z.kinds.toNat ++ leInt 4 z.worst)))

/-! ## Rejudging -/

/-- REJUDGE of a COMPLETE or VOID record without RETIRE_PENDING, with the engine idle: the engine holds the record and a copy of its limit set, the record is REJUDGING and its derived flags and zones are cleared; a record without strips ends its run at once; otherwise it is refused STATE or BUSY and changes nothing. The steps of a rejudge run: each judges the strip at the station reached, its SETTLED cells given their outcomes, against the copy, and the station reached advances; after the last strip the run ends as a step of its own (log entry 8) with the verdict of a COMPLETE record, REJUDGE_DONE and the engine idle. REJUDGE_STEP with the engine idle changes nothing: the model's choice (log entry 4). -/
def Obligations.RejudgeRunsToItsEnd : Prop :=
  (∀ (s : State) (h : Header) (ref : RecordRef) (i : Fin Config.slots), s.Admits h rowRejudge → s.resolve ref = .ok i →
    let r := s.slot i
    let finished := r.state = .complete ∨ r.state = .void
    let cleared : Record := { r with derived := 0, zones := [] }
    (¬finished ∨ r.retirePending = true →
      exec (.rejudge h ref) s = .next (s.frameIn.answered h 0x43 .state [0])) ∧
    (finished → r.retirePending = false → s.engine ≠ none →
      exec (.rejudge h ref) s = .next (s.frameIn.answered h 0x43 .busy [0])) ∧
    (finished → r.retirePending = false → s.engine = none → r.strips ≠ [] →
      exec (.rejudge h ref) s = .next (State.answered
        ({ s.frameIn with
            engine := some { slot := i, copy := s.limit r.shell.limitSet, reached := 0 } }.setSlot i
          { cleared with rejudging := true }) h 0x43 .started [])) ∧
    (finished → r.retirePending = false → s.engine = none → r.strips = [] →
      exec (.rejudge h ref) s = .next (State.answered
        ((s.frameIn.setSlot i
          { (if r.state = .complete then cleared.giveVerdict (s.limit r.shell.limitSet) else cleared) with
            rejudging := false }).raise .rejudgeDone
          (match r.shellId with
            | some id => .shell id
            | none => .slot i r.generation)) h 0x43 .started []))) ∧
  (∀ s : State,
    (s.engine = none → exec .rejudgeStep s = .next s) ∧
    (∀ run, s.engine = some run →
      let r := s.slot run.slot
      (∀ st, r.strips[run.reached]? = some st → ∃ cells : Vector Cell Config.sectors,
        (∀ k : Fin Config.sectors, cells[k] = { st.cells[k] with
          outcome := if st.cells[k].state = .settled then run.copy.judgeCell r.shell.nominal st.cells[k] else .none }) ∧
        exec .rejudgeStep s = .next (State.setSlot { s with
          engine := some { run with reached := run.reached + 1 } } run.slot
          (r.judgeStrip run.copy run.reached { st with cells }))) ∧
      (r.strips.length ≤ run.reached → exec .rejudgeStep s = .next (State.raise { s.setSlot run.slot
          { (if r.state = .complete then r.giveVerdict run.copy else r) with rejudging := false } with
          engine := none } .rejudgeDone
        (match r.shellId with
          | some id => .shell id
          | none => .slot run.slot r.generation)))))

/-! ## Holding and retiring -/

/-- CLAIM puts the source at the tail of a claim list with a place free; a claim held already is DONE with its indication and no change; RETIRE_PENDING is STATE, a full list FULL. A refusal's indication octet is the model's choice (log entry 25). RELEASE takes the source off the claim list; with RETIRE_PENDING the last release frees the record, and the reply says so; a source that holds no claim is NOT_HELD. -/
def Obligations.ClaimsAreHeldAndReleased : Prop :=
  (∀ (s : State) (h : Header) (ref : RecordRef) (i : Fin Config.slots), s.Admits h rowClaim → s.resolve ref = .ok i →
    let r := s.slot i
    let body := fun (own : Byte) (claims : List Byte) =>
      le 1 i ++ [r.generation, own] ++ le 1 claims.length ++ claims ++ List.replicate (4 - claims.length) 0
    exec (.claim h ref) s = .next
      (if r.retirePending = true then s.frameIn.answered h 0x48 .state (0 :: body 0 r.claims)
       else if h.source ∈ r.claims then s.frameIn.answered h 0x48 .done (body 1 r.claims)
       else if 4 ≤ r.claims.length then s.frameIn.answered h 0x48 .full (0 :: body 0 r.claims)
       else (s.frameIn.setSlot i { r with claims := r.claims ++ [h.source] }).answered h 0x48 .done
        (body 0 (r.claims ++ [h.source])))) ∧
  (∀ (s : State) (h : Header) (ref : RecordRef) (i : Fin Config.slots), s.Admits h rowRelease → s.resolve ref = .ok i →
    let r := s.slot i
    let left := r.claims.filter fun a => decide (a ≠ h.source)
    let body := fun (own : Byte) (claims : List Byte) =>
      le 1 i ++ [r.generation, own] ++ le 1 claims.length ++ claims ++ List.replicate (4 - claims.length) 0
    exec (.release h ref) s = .next
      (if h.source ∉ r.claims then s.frameIn.answered h 0x49 .notHeld [0]
       else if left = [] ∧ r.retirePending = true then
        (s.frameIn.freeRecord i).answered h 0x49 .done (body 1 [])
       else (s.frameIn.setSlot i { r with claims := left }).answered h 0x49 .done (body 0 left)))

/-- RETIRE. FORCE frees any live record, and every option frees an ARMED one; NOW and DEFERRED find STATE for a record under way, BUSY while REJUDGING, and free an unclaimed record; a claimed one is HELD for NOW and becomes RETIRE_PENDING for DEFERRED; an option octet other than that of NOW in RETIRE_NOW is RANGE: it names no option, and the command carries such octets (log entry 14), its field octet being read from R199 and R204 (log entry 12); 1 and 2 name the other options, and RETIRE_NOW with one of them is ill-formed. -/
def Obligations.RetireFreesRecords : Prop :=
  ∀ (s : State) (h : Header) (ref : RecordRef) (i : Fin Config.slots), s.Admits h rowRetire → s.resolve ref = .ok i →
    let r := s.slot i
    let body := fun (dropped : Nat) (claims : List Byte) => le 1 i ++ [r.generation] ++ le 1 dropped ++
      le 1 claims.length ++ claims ++ List.replicate (4 - claims.length) 0
    let freed := Host.Outcome.next
      ((s.frameIn.freeRecord i).answered h 0x4A .done (body r.claims.length []))
    let refused := fun (o : ReplyCode) => Host.Outcome.next (s.frameIn.answered h 0x4A o [0])
    exec (.retireForce h ref) s = freed ∧
    (∀ option : Byte, option ≠ 0 → exec (.retireNow h ref option) s =
      .next (s.frameIn.answered h 0x4A .range [1])) ∧
    (r.state = .armed → exec (.retireNow h ref 0) s = freed ∧ exec (.retireDeferred h ref) s = freed) ∧
    (r.state = .measuring ∨ r.state = .finishing →
      exec (.retireNow h ref 0) s = refused .state ∧ exec (.retireDeferred h ref) s = refused .state) ∧
    (r.state = .complete ∨ r.state = .void → r.rejudging = true →
      exec (.retireNow h ref 0) s = refused .busy ∧ exec (.retireDeferred h ref) s = refused .busy) ∧
    (r.state = .complete ∨ r.state = .void → r.rejudging = false → r.claims = [] →
      exec (.retireNow h ref 0) s = freed ∧ exec (.retireDeferred h ref) s = freed) ∧
    (r.state = .complete ∨ r.state = .void → r.rejudging = false → r.claims ≠ [] →
      exec (.retireNow h ref 0) s = refused .held ∧
      exec (.retireDeferred h ref) s = .next ((s.frameIn.setSlot i { r with retirePending := true }).answered h 0x4A
        .pending (body 0 r.claims)))

/-! ## The ring port -/

/-- SET ADDRESS answers the old and the new address and holds the change until the reply is sent; a part above 15 or an address below 2 is refused RANGE (its field octet is read from R199 and R204, log entry 12). JOIN RING takes the part from OFF_RING to JOINING with BYPASS asserted and RING OUT not driven, and LEAVE RING from JOINING to OFF_RING; LEAVE RING while on the ring holds the leaving until its reply is sent (in ACTIVE as in ON_RING: log entry 17); each is DONE and otherwise changes nothing. -/
def Obligations.AddressAndRingMembership : Prop :=
  (∀ (s : State) (h : Header) (part : Byte), s.Admits h rowSetAddress →
    let address := part.toNat * 4 + s.ring.strap.toNat
    exec (.setAddress h part) s = .next
      (if 15 < part.toNat ∨ address < 2 then s.frameIn.answered h 0x50 .range [0]
       else s.frameIn.answered h 0x50 .done
        [BitVec.ofNat 8 (s.ring.part.toNat * 4 + s.ring.strap.toNat), BitVec.ofNat 8 address]
        (.address (BitVec.ofNat 4 part.toNat)))) ∧
  (∀ (s : State) (h : Header),
    (s.Admits h rowJoinRing → exec (.joinRing h) s = .next (State.answered
      (if s.frameIn.ring.state = .offRing then { s.frameIn with
          ring := { s.frameIn.ring with state := .joining, bypass := true, ringOut := none } } else s.frameIn) h 0x52 .done [])) ∧
    (s.Admits h rowLeaveRing → exec (.leaveRing h) s = .next
      (match s.frameIn.ring.state with
        | .offRing => s.frameIn.answered h 0x53 .done []
        | .joining => State.answered { s.frameIn with
            ring := { s.frameIn.ring with state := .offRing, bypass := true, ringOut := none } } h 0x53 .done []
        | _ => s.frameIn.answered h 0x53 .done [] .leave)))

/-- STATIONS WRITE from address 1: with every selected address other than 1, every rights octet within the six rights, and no selected address twice in the table that results, the selected entries are replaced in one event, address 0 making an entry empty; otherwise the first failing check names its lowest entry and nothing changes; replies give the table. -/
def Obligations.StationsWriteReplacesEntries : Prop :=
  ∀ (s : State) (h : Header) (f : StationFields), s.Admits h rowStationsWrite →
    ∃ table : Vector (Option Station) Config.stationEntries,
    (∀ k : Fin Config.stationEntries,
      (f.entries[k] = none → table[k] = s.ring.stations[k]) ∧
      (∀ a rights, f.entries[k] = some (a, rights) →
        table[k] = if a = 0 then none else some { address := a, rights := rights.setWidth 6 })) ∧
    let body := fun (t : Vector (Option Station) Config.stationEntries) => t.toList.flatMap fun e => match e with
      | none => [0, 0]
      | some st => [st.address, BitVec.ofNat 8 st.rights.toNat]
    let one := fun (k : Fin Config.stationEntries) => ∃ rights, f.entries[k] = some (1, rights)
    let wrong := fun (k : Fin Config.stationEntries) => ∃ a rights, f.entries[k] = some (a, rights) ∧ 64 ≤ rights.toNat
    let twice := fun (k : Fin Config.stationEntries) => f.entries[k] ≠ none ∧
      ∃ st j, table[k] = some st ∧ j ≠ k ∧ (table[j].map Station.address) = some st.address
    let refused := fun (o : ReplyCode) (n : Nat) =>
      Host.Outcome.next (s.frameIn.answered h 0x51 o (BitVec.ofNat 8 n :: body s.ring.stations))
    (f.highSelect ≠ 0 → exec (.stationsWrite h f) s = refused .range 0) ∧
    (∀ k : Fin Config.stationEntries, f.highSelect = 0 → one k → (∀ j, j < k → ¬one j) →
      exec (.stationsWrite h f) s = refused .range (k.val + 1)) ∧
    (∀ k : Fin Config.stationEntries, f.highSelect = 0 → (∀ j, ¬one j) → wrong k → (∀ j, j < k → ¬wrong j) →
      exec (.stationsWrite h f) s = refused .range (k.val + 1)) ∧
    (∀ k : Fin Config.stationEntries, f.highSelect = 0 → (∀ j, ¬one j) → (∀ j, ¬wrong j) → twice k →
      (∀ j, j < k → ¬twice j) → exec (.stationsWrite h f) s = refused .duplicate (k.val + 1)) ∧
    (f.highSelect = 0 → (∀ j, ¬one j) → (∀ j, ¬wrong j) → (∀ j, ¬twice j) →
      exec (.stationsWrite h f) s = .next (State.answered { s.frameIn with
        ring := { s.frameIn.ring with stations := table } } h 0x51 .done (body table)))

/-- What arrives on RING IN without a request. A delimiter leaves the receiver OPENED and cuts a reply being sent, with TURN_CUT counted and the permit cleared. A frame command stands for its opening delimiter too, and a release or cut that it finds has been driven whole when it closes, so that the part has left ACTIVE (log entry 3): so for a POLL, a discarded frame and a frame of 257 octets; an abort only cuts. The checks of a closed frame in order: fewer than 40 bits are ignored, bits that are no whole octets are FORMAT, a check that does not match is CHECK, a wrong kind, length or source FORMAT; then a frame for another station and a REPLY are ignored. A POLL for the part or for all sets the permit; a discarded frame counts CHECK or FORMAT; an abort and a frame of 257 octets count ABORT and LONG and leave the receiver in HUNT. -/
def Obligations.FramesMoveRingPort : Prop :=
  (∀ s : State,
    let counted := fun (r : RingPort) (c : RingCounter) =>
      { r with counters := r.counters.set c.idx (min 65535 (r.counters[c.idx] + 1)) }
    let opened : Receiver :=
      { state := .opened, ones := 0, afterZero := true, fresh := false, zeroKept := false, content := [] }
    let cut : RingPort := if s.ring.state = .active ∧ s.ring.phase = .sending
      then counted { s.ring with permit := false, phase := .cutting, toDrive := List.replicate 8 true } .turnCut
      else s.ring
    let off := decide (cut.phase = .releasing) && cut.leaveMarked
    let driven : RingPort := if cut.state = .active ∧ (cut.phase = .releasing ∨ cut.phase = .cutting)
      then { cut with
        state := if off then .offRing else .onRing, bypass := off, ringOut := if off then none else cut.ringOut
        phase := .none, sentInTurn := 0, leaveMarked := false, toDrive := [], held := none }
      else cut
    let closed : RingPort := { driven with rx := opened }
    s.frameIn = { s with ring := closed } ∧
    exec .delimiterReceived s = .next { s with ring := { cut with rx := opened } } ∧
    exec .turnCut s = .next { s with ring := { cut with rx := opened } } ∧
    (∀ dest source : Byte, exec (.poll dest source) s = .next (s.setRing
      (if source = 0 then counted closed .format
       else if dest = 0 ∨ dest.toNat = s.ring.part.toNat * 4 + s.ring.strap.toNat then { closed with permit := true }
       else closed))) ∧
    (∀ content c, frameCheck content = .discarded c →
      (c = .check ∨ c = .format) ∧ exec (.frameDiscard content) s = .next { s with ring := counted closed c }) ∧
    exec .abort s = .next { s with
      ring := counted { cut with rx := { s.ring.rx with state := .hunt, content := [], ones := 6 } } .aborts } ∧
    exec .longFrame s = .next { s with
      ring := counted { driven with rx := { s.ring.rx with state := .hunt, content := [] } } .long }) ∧
  (∀ (address : Byte) (content : List Bool),
    (content.length < 40 → frameCheck content = .ignored ∧ frameCommand address content = .delimiterReceived) ∧
    (40 ≤ content.length → content.length % 8 ≠ 0 →
      frameCheck content = .discarded .format ∧ frameCommand address content = .frameDiscard content)) ∧
  (∀ (address dest source kind : Byte) (rest : List Byte), 2 ≤ rest.length →
    let octets := dest :: source :: kind :: rest
    let before := octets.take (octets.length - 2)
    let matching := octets = before ++ [(checkOf (bitsOf before)).extractLsb' 0 8, (checkOf (bitsOf before)).extractLsb' 8 8]
    let known := (kind = 1 ∧ 4 ≤ rest.length ∧ source ≠ 0) ∨ kind = 2 ∨ (kind = 3 ∧ rest.length = 2 ∧ source ≠ 0)
    (¬matching → frameCheck (bitsOf octets) = .discarded .check ∧
      frameCommand address (bitsOf octets) = .frameDiscard (bitsOf octets)) ∧
    (matching → ¬known → frameCheck (bitsOf octets) = .discarded .format ∧
      frameCommand address (bitsOf octets) = .frameDiscard (bitsOf octets)) ∧
    (matching → known → frameCheck (bitsOf octets) = .passed octets ∧
      (dest ≠ 0 ∧ dest ≠ address ∨ kind = 2 → frameCommand address (bitsOf octets) = .delimiterReceived) ∧
      (dest = 0 ∨ dest = address → kind = 3 → frameCommand address (bitsOf octets) = .poll dest source)))

/-- Joining and turns: the twelfth 1 of an idle run takes a JOINING part ON_RING; a release finds a permit and a reply and the part takes the turn; each reply sent leaves the queue and takes its effect, and the turn goes on, or ends after eight replies, an empty queue or a LEAVE RING reply: the permit is cleared with the last bit of that reply, before the release (log entry 9), and not by the taking of the turn (log entry 10). The end of the release leaves the part ON_RING, or OFF_RING with RING OUT not driven, and a permit set meanwhile stays; a cut's end leaves it ON_RING. On joining, and after a turn or a cut, no bit waits to be repeated (log entry 16). Events outside their phase change nothing (log entry 4). -/
def Obligations.TurnsSendReplies : Prop :=
  ∀ s : State,
    let hunting := fun (n : Nat) => { s.ring.rx with state := RxState.hunt, content := [], ones := n }
    exec .idleRun s = .next (s.setRing
      (if s.ring.state = .joining then { s.ring with rx := hunting 12, state := .onRing, bypass := false, held := none }
       else { s.ring with rx := hunting 12 })) ∧
    (s.ring.replies = [] ∨ s.ring.permit = false ∨ s.ring.state ≠ .onRing →
      exec .takeTurn s = .next { s with ring := { s.ring with rx := hunting 6 } }) ∧
    (∀ reply rest, s.ring.replies = reply :: rest → s.ring.permit = true → s.ring.state = .onRing →
      exec .takeTurn s = .next { s with ring := { s.ring with
        rx := hunting 6, state := .active, bypass := false, phase := .sending, sentInTurn := 0, leaveMarked := false
        toDrive := [false] ++ stuff 0 (bitsOf reply.octets) ++ [false, true, true, true, true, true, false] } }) ∧
    (s.ring.state ≠ .active ∨ s.ring.phase ≠ .sending ∨ s.ring.replies = [] → exec .replySent s = .next s) ∧
    (∀ sent rest, s.ring.state = .active → s.ring.phase = .sending → s.ring.replies = sent :: rest →
      let effected : RingPort := { s.ring with
        replies := rest, sentInTurn := s.ring.sentInTurn + 1
        part := (match sent.effect with
          | .address part => part
          | _ => s.ring.part)
        leaveMarked := s.ring.leaveMarked || decide (sent.effect = .leave) }
      (8 ≤ s.ring.sentInTurn + 1 ∨ rest = [] ∨ sent.effect = .leave → exec .replySent s = .next { s with
        ring := { effected with permit := false, phase := .releasing, toDrive := List.replicate 6 true } }) ∧
      (∀ next more, s.ring.sentInTurn + 1 < 8 → rest = next :: more → sent.effect ≠ .leave →
        exec .replySent s = .next { s with ring := { effected with
          toDrive := List.replicate 5 true ++ [false] ++ stuff 0 (bitsOf next.octets) ++
            [false, true, true, true, true, true, false] } })) ∧
    (s.ring.state ≠ .active ∨ s.ring.phase ≠ .releasing → exec .turnEnd s = .next s) ∧
    (s.ring.state = .active → s.ring.phase = .releasing → exec .turnEnd s = .next { s with ring := { s.ring with
      state := if s.ring.leaveMarked then .offRing else .onRing, bypass := s.ring.leaveMarked
      phase := .none, sentInTurn := 0, leaveMarked := false, toDrive := [], held := none
      ringOut := if s.ring.leaveMarked then none else s.ring.ringOut } }) ∧
    (s.ring.state ≠ .active ∨ s.ring.phase ≠ .cutting → exec .cutEnd s = .next s) ∧
    (s.ring.state = .active → s.ring.phase = .cutting → exec .cutEnd s = .next { s with ring := { s.ring with
      state := .onRing, bypass := false, phase := .none, sentInTurn := 0, leaveMarked := false, toDrive := []
      held := none } })

/-! ## Notices and part status -/

/-- NOTICE MASK replaces the mask and answers it with the pending set; a mask with other bits is RANGE, naming field 1 (read from R199 and R204, log entry 12). FETCH NOTICE takes the pending and enabled kind of the highest priority, answers its code, count and subject, and clears it; with none it answers zeros; the attention line follows in both. -/
def Obligations.NoticesAreMaskedAndFetched : Prop :=
  ∀ (s : State) (h : Header),
    let pending := fun (n : NoticeUnit) =>
      ((List.finRange 11).map fun k : Fin 11 => if n.entries[k].pending then 2 ^ k.val else 0).sum
    let subject := fun (x : Subject) => match x with
      | .none => ([0, 0, 0, 0, 0, 0] : List Byte)
      | .head n => [1] ++ le 4 n ++ [0]
      | .shell id => [2] ++ le 4 id.toNat ++ [0]
      | .slot i generation => [3] ++ le 4 i ++ [generation]
    (∀ mask : Half, s.Admits h rowNoticeMask →
      (2048 ≤ mask.toNat → exec (.noticeMask h mask) s =
        .next (s.frameIn.answered h 0x60 .range (1 :: le 2 s.notices.mask.toNat ++ le 2 (pending s.notices)))) ∧
      (mask.toNat < 2048 → ∃ attention : Bool,
        (attention = true ↔ ∃ k : Fin 11, s.notices.entries[k].pending = true ∧ mask.getLsbD k = true) ∧
        exec (.noticeMask h mask) s = .next (State.answered { s.frameIn with
            notices := { s.notices with mask := mask.setWidth 11, attention } } h 0x60 .done
          (le 2 mask.toNat ++ le 2 (pending s.notices))))) ∧
    (s.Admits h rowFetchNotice →
      ((∀ k : Fin 11, s.notices.entries[k].pending = true → s.notices.mask.getLsbD k = false) →
        exec (.fetchNotice h) s = .next (s.frameIn.answered h 0x61 .done
          ([0, 0, 0, 0, 0, 0, 0, 0] ++ le 2 (pending s.notices)))) ∧
      (∀ k : Fin 11, s.notices.entries[k].pending = true → s.notices.mask.getLsbD k = true →
        (∀ j, j < k → s.notices.entries[j].pending = true → s.notices.mask.getLsbD j = false) →
        ∃ attention : Bool,
          (attention = true ↔
            ∃ j : Fin 11, j ≠ k ∧ s.notices.entries[j].pending = true ∧ s.notices.mask.getLsbD j = true) ∧
          let left : NoticeUnit := { s.notices with
            entries := s.notices.entries.set k { pending := false, count := 0, subject := .none }, attention }
          exec (.fetchNotice h) s = .next (State.answered { s.frameIn with notices := left } h 0x61 .done
            (le 1 (k.val + 1) ++ le 1 s.notices.entries[k].count ++ subject s.notices.entries[k].subject ++
              le 2 (pending left)))))

/-- PART STATUS gives the ring state, permit, address and reply count, the contexts and blind passage, the spin and head states, the free strips and FREE slots, the arming queue, the rejudge engine and the notices, and changes nothing; the ring state it gives is never ACTIVE, since the frame that carries it closes after the turn, release or cut that it found (R191, log entry 3). COUNTERS READ gives the eight ring counters, a TURN_CUT of its own frame among them, and the slip count; COUNTERS CLEAR gives the same and then sets them to 0. -/
def Obligations.StatusAndCountersAreRead : Prop :=
  ∀ (s : State) (h : Header),
    let counters := s.frameIn.ring.counters.toList.flatMap (le 2) ++ le 2 s.tracker.slips
    ((s.ring.state = .active → s.ring.phase ≠ .none) → s.frameIn.ring.state ≠ .active) ∧
    (s.Admits h rowPartStatus → s.tracker.contexts.length ≤ 2 →
      exec (.partStatus h) s = .next (s.frameIn.answered h 0x62 .done
        (le 1 s.frameIn.ring.state.code ++ [if s.frameIn.ring.permit then 1 else 0, s.ring.address] ++
          le 1 s.ring.replies.length ++ le 1 s.tracker.contexts.length ++
          (match s.tracker.contexts with
            | [] => [0, 0, 0, 0]
            | [c] => le 1 c.slot ++ [if c.role = .measuring then 2 else 3, 0, 0]
            | c :: d :: _ => le 1 c.slot ++ [if c.role = .measuring then 2 else 3] ++ le 1 d.slot ++
                [if d.role = .measuring then 2 else 3]) ++
          [if s.tracker.blind then 1 else 0, if s.tracker.spin = .synced then 1 else 0] ++
          (s.heads.toList.flatMap fun p => le 1 p.state.code) ++ le 2 s.freeStrips ++
          le 1 (slotOrder.countP fun i => decide ((s.slot i).state = .free)) ++ le 1 s.armQueue.length ++
          (match s.engine with
            | none => [0, 0, 0, 0]
            | some run => [1] ++ le 1 run.slot ++ le 2 run.reached) ++
          le 2 ((List.finRange 11).map fun k : Fin 11 => if s.notices.entries[k].pending then 2 ^ k.val else 0).sum ++
          le 2 s.notices.mask.toNat ++ [if s.notices.attention then 1 else 0]))) ∧
    (s.Admits h rowCountersRead →
      exec (.countersRead h) s = .next (s.frameIn.answered h 0x63 .done counters)) ∧
    (s.Admits h rowCountersClear →
      exec (.countersClear h) s = .next (State.answered { s.frameIn with
        ring := { s.frameIn.ring with counters := Vector.replicate 8 0 }
        tracker := { s.tracker with slips := 0 } } h 0x64 .done counters))

/-! ## Restart -/

/-- RESTART from address 1, to the part or broadcast: every record is FREE in generation 0 with both lists empty and every strip free; the tracker loses passages, spin and slips but keeps settings and advance count, a lit ENTRY line being a new candidate; enabled ports are IDLE and every port's queue, counters and expectation are emptied; counts of the materials are 0; the engine is idle; other replies, ring counters and notices are gone; settings and tables keep their values; and the one reply is queued. An idle head line stays idle (log entry 13). A RESTART that finds 16 replies queued is shed (FullReplyQueueSheds). -/
def Obligations.RestartRestoresBlocks : Prop :=
  ∀ (s : State) (h : Header), h.source = 1 → h.dest = 0 ∨ h.dest = s.ring.address → s.ring.replies.length < 16 →
    ∃ t : State, exec (.restart h) s = .next t ∧
      (∀ i, t.slot i = Record.free 0) ∧ t.armQueue = [] ∧ t.completion = [] ∧ t.template = s.template ∧
      t.tracker = { s.tracker with
        entry := .dark, candidate := if s.tracker.raw = .lit then some s.tracker.advance else none
        stallTimer := .stopped, spinCount := 0, spin := .unsynced, spinTimer := .stopped, slips := 0, contexts := []
        blind := false } ∧
      (∀ p, t.head p = { s.head p with
        state := if (s.head p).state = .disabled then .disabled else .idle
        queue := [], expected := none, silenceTimer := .stopped, counters := Vector.replicate 14 0
        line := if (s.head p).line = .idle then .idle else .ignoring
        ready := decide ((s.head p).state ≠ .disabled ∧
          ((s.head p).settings.mode = .drop ∨ 0 < (s.head p).settings.depth)) }) ∧
      t.pointer.val + 1 = 6 ∧ (∀ g, t.material g = { s.material g with refs := 0 }) ∧ t.freeStrips = 4096 ∧
      t.eviction = s.eviction ∧ t.limits = s.limits ∧ t.engine = none ∧
      t.ring = { s.frameIn.ring with
        counters := Vector.replicate 8 0
        replies := [{ dest := 1, source := s.ring.address, code := 0x65, tag := h.tag, outcome := .done, body := []
                      effect := .none }] } ∧
      t.notices = { s.notices with
        entries := Vector.replicate 11 { pending := false, count := 0, subject := .none }, attention := false } ∧
      t.pending = s.pending ∧ t.ringIn = s.ringIn

/-! ## What every step keeps -/

/-- Every step keeps the lines and timers following the state, and the candidate edge following the ENTRY level. -/
def Obligations.StepKeepsLinesFollowing : Prop :=
  ∀ s t : State, LinesFollow s → CandidateFollows s → step s = .next t → LinesFollow t ∧ CandidateFollows t

/-- Every step keeps the free strips and the strips of all records together at 4,096, and FREE records without strips; the links of the shell table rule out states that no run reaches. -/
def Obligations.StepKeepsPoolWhole : Prop :=
  ∀ s t : State, TableLinked s → PoolConserved s → step s = .next t → PoolConserved t

/-- Every step keeps the bounds of queues, lists and counters. -/
def Obligations.StepKeepsBounds : Prop :=
  ∀ s t : State, Bounded s → step s = .next t → Bounded t

/-- Every step keeps the links of the shell table with the tracker, the rejudge engine and the material table. -/
def Obligations.StepKeepsTableLinked : Prop :=
  ∀ s t : State, TableLinked s → step s = .next t → TableLinked t

/-- Every step keeps every zone list in order, each zone more than one station past the one before. -/
def Obligations.StepKeepsZonesInOrder : Prop :=
  ∀ s t : State, ZonesInOrder s → step s = .next t → ZonesInOrder t

/-- Every step keeps the ring port sound: a phase of a turn exactly in ACTIVE, an address of 2 or above, and a station table without address 0, 1 or a repeated one. -/
def Obligations.StepKeepsRingSound : Prop :=
  ∀ s t : State, RingSound s.ring → step s = .next t → RingSound t.ring

/-- The state after reset meets every invariant. -/
def Obligations.ResetMeetsInvariants : Prop :=
  LinesFollow State.reset ∧ CandidateFollows State.reset ∧ PoolConserved State.reset ∧ Bounded State.reset ∧
    TableLinked State.reset ∧ ZonesInOrder State.reset ∧ RingSound State.reset.ring

/-! ## Frames -/

/-- The frame of every well-formed request, broadcast and POLL, stuffed and closed as it is sent, is received bit by bit after a delimiter as one closed frame with its content and nothing else, and, at the part's address or broadcast, is read back as the command it carries, with every operand. -/
def Obligations.FramesReadBackAsCommands : Prop :=
  ∀ (i : Instr) (address : Byte) (octets : List Byte), i.wellFormed = true → commandFrame i = some octets →
    octets.length ≤ 256 → (∀ h code body, requestOctets i = some (h, code, body) → h.dest = address ∨ h.dest = 0) →
    (∀ dest source, i = .poll dest source → dest = address ∨ dest = 0) →
    Receiver.atDelimiter.feed (stuff 0 (bitsOf octets) ++ delimiter) =
      (Receiver.atDelimiter, [.closed (bitsOf octets)]) ∧
    frameCommand address (bitsOf octets) = i
end

