-- ==== Sys2Proof/Tests/Slice0.lean ====
section
/-! SUPPORT. The author's tests: ill-formed commands that the check refuses, the spec's worked examples, one small test of each family of commands, and for every obligation with hypotheses a state and operands that meet them. -/

namespace Sys2Proof.Tests

open Sys2Proof.Machine

/-! ## States for the tests -/

/-- A request header from address 1 to the part at reset. -/
def h1 : Header := { dest := 40, source := 1, tag := 7 }

/-- A request header from a station at address 21. -/
def h21 : Header := { dest := 40, source := 21, tag := 7 }

/-- A material entry's fields. -/
def grade : MaterialFields :=
  { gradeCode := 5, v0 := 5920, k := 60, tmin := 900, tref := 1000, tmax := 1200, echoFloor := 20, weak := 60 }

/-- The part at reset with material entry 0 DEFINED. -/
def ready : State := State.reset.setMaterial 0 { fields := some grade, refs := 0 }

/-- Shell fields as ARM carries them. -/
def fields : ShellFields :=
  { grade := 0, limitSet := 0, hand := 0, pitch := 40, nominal := 20000, leadCrop := 2, tailCrop := 2 }

/-- The settings they give. -/
def settings : ShellSettings :=
  { grade := 0, limitSet := 0, hand := .forward, pitch := 40, nominal := 20000, leadCrop := 2, tailCrop := 2 }

/-- A record in a state, with shell id 5. -/
def recordIn (st : LifeState) : Record := { Record.free 0 with state := st, shellId := some 5, shell := settings }

/-- The part with such a record in slot 0. -/
def holding (r : Record) : State :=
  (ready.setSlot 0 r).setMaterial 0 { fields := some grade, refs := 1 }

/-- The reference to slot 0. -/
def slot0 : RecordRef := { form := 1, octets := 0 }

/-- A context on slot 0. -/
def context (role : Role) : Context := { slot := 0, generation := 0, front := 100, tail := none, role }

/-- The part with a record in slot 0 and a context bound to it. -/
def tracking (r : Record) (role : Role) : State :=
  (holding r).setTracker { State.reset.tracker with
    entry := .lit, raw := .lit, contexts := [context role], stallTimer := .running, advance := 104000 }

/-- The state after a command; the state before, were it to stop. -/
def after (i : Instr) (s : State) : State :=
  match exec i s with
  | .next t => t
  | _ => s

/-- Commands carried out in turn. -/
def afterAll (is : List Instr) (s : State) : State := is.foldl (fun t i => after i t) s

/-- The outcome and body of the newest reply. -/
def lastReply (s : State) : Option (ReplyCode × List Byte) := s.ring.replies.getLast?.map fun r => (r.outcome, r.body)

/-- Requests of address 1 are admitted in a state whose ring port is that of reset. -/
theorem admits_at_reset (s : State) (row : RequestRow) (ring : s.ring = State.reset.ring) : s.Admits h1 row where
  source := by decide
  single := by decide
  part := by rw [ring]; decide
  room := by rw [ring]; decide
  right := by rw [ring]; rfl

/-! ## Well-formed commands -/

theorem test_request_is_well_formed : (Instr.lookup h1 slot0).wellFormed = true := by decide
theorem test_source_0_is_ill_formed : (Instr.lookup { h1 with source := 0 } slot0).wellFormed = false := by decide
theorem test_broadcast_request_is_ill_formed : (Instr.partStatus { h1 with dest := 0 }).wellFormed = false := by decide
theorem test_retire_now_is_not_deferred : (Instr.retireNow h1 slot0 1).wellFormed = false := by decide
theorem test_retire_now_is_not_force : (Instr.retireNow h1 slot0 2).wellFormed = false := by decide
theorem test_retire_now_names_a_part : (Instr.retireNow { h1 with dest := 0 } slot0 0).wellFormed = false := by decide
theorem test_restart_broadcast_comes_from_1 : (Instr.restart { h1 with dest := 0, source := 2 }).wellFormed = false := by
  decide
theorem test_malformed_fits_no_command : (Instr.malformed h1 0x16 []).wellFormed = false := by decide
theorem test_malformed_has_a_source : (Instr.malformed { h1 with source := 0 } 0x77 []).wellFormed = false := by decide
theorem test_ignored_broadcast_has_a_source : (Instr.ignoredBroadcast 0 0x16 []).wellFormed = false := by decide
theorem test_ignored_broadcast_is_no_restart : (Instr.ignoredBroadcast 1 0x65 []).wellFormed = false := by decide
theorem test_poll_has_a_source : (Instr.poll 40 0).wellFormed = false := by decide
theorem test_discarded_frame_fails_a_check :
    (Instr.frameDiscard (bitsOf (withCheck [40, 1, 3]))).wellFormed = false := by decide +kernel
theorem test_report_has_its_length : (Instr.headReport 0 [1, 2, 3, 249]).wellFormed = false := by decide
theorem test_report_has_its_sum : (Instr.headReport 0 [1, 2, 3, 4, 244]).wellFormed = false := by decide
theorem test_corrupt_run_has_octets : (Instr.corrupt 0 []).wellFormed = false := by decide
theorem test_stray_run_has_octets : (Instr.stray 0 []).wellFormed = false := by decide

/-! ## Frames and bits -/

/-- The example of 8.11.1: F0 and 0F hexadecimal. -/
theorem test_stuffing_crosses_octets : stuff 0 (bitsOf [0xF0, 0x0F]) =
    [false, false, false, false, true, true, true, true, false, true, true, true, true, false, false, false, false, false] := by
  decide
/-- A request frame is read back at the part's address. -/
theorem test_frame_is_read_back :
    (commandFrame (.headEnable h1 3)).map (fun o => frameCommand 40 (bitsOf o)) = some (.headEnable h1 3) := by
  decide +kernel
/-- The check is 8005 hexadecimal dividing with a start of all ones: the octet 00 leaves FD02. -/
theorem test_check_of_one_octet : checkOf (bitsOf [0]) = 0xFD02#16 := by decide
/-- A POLL for the part, bit by bit on RING IN. -/
theorem test_poll_arrives_bit_by_bit :
    (Receiver.powerOn.feed (delimiter ++ stuff 0 (bitsOf (pollFrameOctets 40 1)) ++ delimiter)).2.getLast? =
      some (.closed (bitsOf (pollFrameOctets 40 1))) := by decide +kernel
/-- Twelve 1s are an idle run; six right after a delimiter are a release. -/
theorem test_idle_and_release :
    (Receiver.powerOn.feed (List.replicate 12 true)).2 = [.idle] ∧
      (Receiver.powerOn.feed (delimiter ++ List.replicate 6 true)).2 = [.delimiter, .release] := by decide +kernel
/-- No table word spells a command, since the table gives no bits. -/
theorem test_no_word_spells_a_command : (State.reset.withFetchWord 8 0x10).pending = [] := by decide

/-! ## Worked examples of the spec -/

/-- The check octet of R208. -/
theorem test_report_check_octet : reportFits [12, 0x40, 0x1F, 140, 0x4C, 0x04, 184] = true := by decide
/-- The sector example of R43. -/
theorem test_sector_example : (sectorOf .forward 1365 1200).val = 7 ∧ (sectorOf .counter 1365 1200).val = 0 := by decide
/-- The slip example of R36. -/
theorem test_slip_example :
    [1040, 1041, 1007].map (fun n : Nat => ({ State.reset.tracker with spinCount := BitVec.ofNat 16 n }).slipped) =
      [false, true, true] := by decide
/-- The length and the completion distance of 2.10. -/
theorem test_passage_example : State.reset.tracker.lengthOf 100000 105620 = 2810 ∧
    ({ State.reset.tracker with advance := 108781 }).headDistance { context .finishing with front := 100000 } 30 = 2860 ∧
    ({ State.reset.tracker with advance := 108782 }).headDistance { context .finishing with front := 100000 } 30 = 2861 := by
  decide +kernel
/-- Velocity and thickness by R79 and R80. -/
theorem test_thickness_example : grade.velocity 1100 = 5260 ∧ thicknessOf 5260 8000 = 21040 := by decide
/-- The limits of the example of R117. -/
theorem test_limits_example : ({ LimitSet.powerOn with lower := 80, upper := 120 }).lowerLimit 21000 = 19320 ∧
    ({ LimitSet.powerOn with lower := 80, upper := 120 }).upperLimit 21000 = 23520 := by decide
/-- The cell of 5.7. -/
theorem test_cell_example :
    ([21040, 20431, 21600, 20800, 20400].foldl (fun c t => c.accept .powerOn 21000 t) ({} : Cell)) =
      { state := .settled, accepted := 5, need := 0, min := 20400, max := 21600, sum := 104271, worst := 600,
        outcome := .pass } := by decide +kernel
/-- The cell of 6.8.1 in both modes. -/
theorem test_modes_example :
    let c : Cell := { state := .settled, accepted := 4, sum := 84000, min := 18700, max := 23300 }
    LimitSet.powerOn.judgeCell 21000 c = .pass ∧
      ({ LimitSet.powerOn with controls := 1 }).judgeCell 21000 c = .thinThick := by decide
/-- The strip of 5.8. -/
def stripBefore : Strip :=
  let settled := fun (accepted rejected sum : Nat) => ({ state := .settled, accepted, rejected, sum } : Cell)
  let table : List Cell :=
    [settled 4 0 84000, settled 3 1 64500, settled 4 5 88800, settled 3 0 66300,
     { state := .opened, accepted := 2, rejected := 1, sum := 42800 }, { rejected := 3 }, {}, settled 3 0 60000,
     settled 5 2 98000, settled 3 0 58800, settled 4 0 80400, { state := .opened, accepted := 1, rejected := 1, sum := 20500 }]
  { cells := Vector.ofFn fun k => table.getD k {} }
theorem test_strip_close_example :
    (stripBefore.close .powerOn 21000).ecc = some 62 ∧
      ((stripBefore.close .powerOn 21000).cells.toList.map fun c => (c.state, c.noisy)) =
        [(.settled, false), (.settled, false), (.settled, true), (.settled, false), (.sparse, false), (.gap, true),
         (.gap, false), (.settled, false), (.settled, false), (.settled, false), (.settled, false), (.sparse, false)] := by
  decide +kernel
/-- The record of 6.8.2 before its last two closes, with 71 strips. -/
def zoneRecord : Record := { recordIn .finishing with strips := List.replicate 71 {} }
/-- A widened zone merged with the zone before it keeps that zone's first station (R129). -/
theorem test_merged_zone_keeps_first_station :
    ((zoneRecord.offer ⟨10, 10, 1, 5⟩).offer ⟨12, 12, 1, 5⟩).zones = [⟨10, 10, 1, 5⟩, ⟨12, 12, 1, 5⟩] ∧
      (((zoneRecord.offer ⟨10, 10, 1, 5⟩).offer ⟨12, 12, 1, 5⟩).offer ⟨7, 21, 2, -6⟩).zones = [⟨10, 21, 3, -6⟩] := by
  decide +kernel
/-- The zones of 6.8.2, and the verdicts of 6.8.2 and 6.8.3. -/
theorem test_zones_example :
    let list := [⟨8, 10, 1, -2400⟩, ⟨10, 12, 4, 900⟩, ⟨13, 15, 2, 2500⟩, ⟨39, 41, 1, -2200⟩, ⟨65, 67, 1, -2100⟩,
      ⟨68, 70, 2, 2300⟩].foldl (fun (r : Record) c => r.offer c) zoneRecord
    list.zones = [⟨8, 15, 7, 2500⟩, ⟨39, 41, 1, -2200⟩, ⟨65, 70, 3, 2300⟩] ∧
      (list.giveVerdict .powerOn).verdict = .reject ∧ (list.giveVerdict .powerOn).soundRun = 23 ∧
      (list.giveVerdict { LimitSet.powerOn with minGood := 800 }).verdict = .cut ∧
      (list.giveVerdict .powerOn).zones.getLast? = some ⟨65, 68, 3, 2300⟩ := by decide +kernel
/-- The FULL cell of 11.6.1. -/
theorem test_full_cell_example :
    ({ state := .settled, outcome := .thin, accepted := 3, sum := 53300, min := 17600, max := 17900,
       worst := -2400 } : Cell).full 20000 = 5 + 3 * 2 ^ 9 + 7600 * 2 ^ 25 + 7900 * 2 ^ 42 + 7766 * 2 ^ 59 := by decide
/-- The first six rows of 1.10: two ARMs, a refused one, a DISARM, an ARM, and the lit edge that binds id 5102. -/
theorem test_arrivals_example :
    let s := afterAll [.arm h1 5101 fields, .arm h1 5102 fields, .arm h1 5102 fields, .disarm h1 ⟨0, 5101⟩,
      .arm h1 5103 fields, .entryChange, .litEdge] ready
    (s.slots.toList.take 3).map (fun r => (r.state, r.generation, r.shellId)) =
        [(.armed, 1, some 5103), (.measuring, 0, some 5102), (.free, 0, none)] ∧
      s.armQueue = [0] ∧ s.ring.replies.map Reply.outcome = [.done, .done, .duplicate, .done, .done] ∧
      (s.material 0).refs = 2 := by decide +kernel

/-! ## States and operands that meet the hypotheses of the statements -/

/-- The part with `n` replies queued. -/
def queued (n : Nat) (s : State) : State :=
  let reply : Reply := { dest := 1, source := 40, code := 0x62, tag := 0, outcome := .done, body := [], effect := .none }
  s.setRing { s.ring with replies := List.replicate n reply }

/-- Shell fields at the ends of their ranges. -/
def edgeFields : ShellFields :=
  { grade := 31, limitSet := 3, hand := 1, pitch := 200, nominal := 100000, leadCrop := 63, tailCrop := 63 }

/-- The part with material entries 0 and 31 DEFINED. -/
def ready31 : State := ready.setMaterial 31 { fields := some grade, refs := 0 }

/-- The part with sixteen COMPLETE records, their ids 100 and on. -/
def occupied : State :=
  { ready with
    completion := slotOrder
    slots := Vector.ofFn fun i => { recordIn .complete with shellId := some (BitVec.ofNat 32 (100 + i)) } }

theorem test_meets_StepsAlwaysLeadOn : State.reset.pending = [] ∧ State.reset.ringIn = [] ∧
    ({ State.reset with ringIn := [true] }).ringIn = true :: [] ∧
    (let five := (Receiver.atDelimiter.feed (List.replicate 5 true)).1
     let zero := (Receiver.atDelimiter.feed [false]).1
     Receiver.atDelimiter.state = .opened ∧ (five.state = .inFrame ∧ five.ones = 5) ∧ Receiver.powerOn.state = .hunt ∧
      (zero.state = .inFrame ∧ zero.ones ≠ 5) ∧
      (zero.state ≠ .opened ∧ ¬(zero.state = .inFrame ∧ zero.ones = 5))) := by decide +kernel

theorem test_meets_RaisesAndCounts : (1 : Fin 11) ≠ NoticeKind.poolExhausted.idx := by decide

theorem test_meets_FullReplyQueueSheds : requestOctets (.partStatus h1) = some (h1, 0x62, []) ∧ (0x62 : Byte) ≠ 0x52 ∧
    h1.source ≠ 0 ∧ h1.dest ≠ 0 ∧ h1.dest = (queued 16 State.reset).ring.address ∧
    16 ≤ (queued 16 State.reset).ring.replies.length ∧
    (queued 16 State.reset).ring.permits h1.source (some .setup) = true ∧
    (queued 16 State.reset).ring.permits h21.source (some .setup) = false ∧
    (({ h1 with dest := 0 }).source = 1 ∧ ({ h1 with dest := 0 }).dest = 0) := by decide +kernel

theorem test_meets_MissingRightIsDenied : requestOctets (.partStatus h21) = some (h21, 0x62, []) ∧
    (∀ c b, Instr.partStatus h21 ≠ .malformed h21 c b) ∧ codeRow 0x62 = some rowPartStatus ∧ h21.source ≠ 0 ∧
    h21.dest ≠ 0 ∧ h21.dest = (queued 15 State.reset).ring.address ∧ (queued 15 State.reset).ring.replies.length < 16 ∧
    h21.source ≠ 1 ∧ (∀ right, rowPartStatus.need = some right → ∀ (k : Fin Config.stationEntries) st,
      (queued 15 State.reset).ring.stations[k] = some st → st.address = h21.source → hasRight st.rights right = false) := by
  refine ⟨by decide, (fun _ _ e => nomatch e), by decide, by decide, by decide, by decide, by decide, by decide, ?_⟩
  intro _ _ k st held
  have empty : ∀ k : Fin Config.stationEntries, (queued 15 State.reset).ring.stations[k] = none := by decide
  rw [empty k] at held
  cases held

theorem test_meets_RequestsThatReachNoBlock :
    (h1.source ≠ 0 ∧ h1.dest ≠ 0 ∧ h1.dest = (queued 15 State.reset).ring.address ∧
      (queued 15 State.reset).ring.replies.length < 16) ∧
    requestOctets (.partStatus { h1 with source := 0 }) = some ({ h1 with source := 0 }, 0x62, []) ∧
    (requestOctets (.partStatus { h1 with dest := 77 }) = some ({ h1 with dest := 77 }, 0x62, []) ∧
      (77 : Byte) ≠ State.reset.ring.address) ∧
    (requestOctets (.restart { h1 with dest := 0, source := 2 }) = some ({ h1 with dest := 0, source := 2 }, 0x65, []) ∧
      (2 : Byte) ≠ 1) := by decide +kernel

theorem test_meets_ReferencesResolve :
    (((holding (recordIn .armed)).slot 0).state ≠ .free ∧ ((holding (recordIn .armed)).slot 0).shellId = some (5 : Word) ∧
      ∀ j, j ≠ 0 → ((holding (recordIn .armed)).slot j).state ≠ .free →
        ((holding (recordIn .armed)).slot j).shellId ≠ some (5 : Word)) ∧
    (∀ i, (State.reset.slot i).state ≠ .free → (State.reset.slot i).shellId ≠ some (5 : Word)) ∧
    (15 < (16 : Word).toNat % 256 ∧ (15 : Word).toNat % 256 = (15 : Fin Config.slots).val) ∧ 2 < (3 : Byte).toNat := by
  decide +kernel

theorem test_meets_UnresolvedReferencesAreRefused : State.reset.resolve slot0 = .error .notFound ∧
    ∀ row, State.reset.Admits h1 row := ⟨rfl, fun row => admits_at_reset _ row rfl⟩

theorem test_meets_ArmPlacesRecord : ready31.Admits h1 rowArm ∧ edgeFields.grade.toNat = (31 : Fin Config.materials).val ∧
    edgeFields.limitSet.toNat ≤ 3 ∧ edgeFields.hand.toNat ≤ 1 ∧ 10 ≤ edgeFields.pitch.toNat ∧
    edgeFields.pitch.toNat ≤ 200 ∧ 2000 ≤ edgeFields.nominal.toNat ∧ edgeFields.nominal.toNat ≤ 100000 ∧
    edgeFields.leadCrop.toNat ≤ 63 ∧ edgeFields.tailCrop.toNat ≤ 63 ∧ (ready31.material 31).fields ≠ none ∧
    (∀ j, (ready31.slot j).state ≠ .free → (ready31.slot j).shellId ≠ some (5 : Word)) ∧ ready31.armQueue.length < 4 ∧
    (ready31.slot 0).state = .free ∧ ∀ j, j < 0 → (ready31.slot j).state ≠ .free :=
  ⟨admits_at_reset _ _ rfl, by decide +kernel⟩

/-- The first failing check of ARM, as the statement of its refusals takes them in order. -/
def armCheck (s : State) (id : Word) (f : ShellFields) : Option (ReplyCode × Nat) :=
  if 31 < f.grade.toNat then some (ReplyCode.range, 2)
  else if 3 < f.limitSet.toNat then some (.range, 3)
  else if 1 < f.hand.toNat then some (.range, 4)
  else if f.pitch.toNat < 10 ∨ 200 < f.pitch.toNat then some (.range, 5)
  else if f.nominal.toNat < 2000 ∨ 100000 < f.nominal.toNat then some (.range, 6)
  else if 63 < f.leadCrop.toNat then some (.range, 7)
  else if 63 < f.tailCrop.toNat then some (.range, 8)
  else if (s.material (ShellFields.settings f).grade).fields = none then some (.noGrade, 0)
  else if ∃ j, (s.slot j).state ≠ .free ∧ (s.slot j).shellId = some id then some (.duplicate, 0)
  else if 4 ≤ s.armQueue.length then some (.queueFull, 0)
  else none

theorem test_meets_ArmRefusesInOrder :
    armCheck ready 9 { edgeFields with grade := 32 } = some (.range, 2) ∧
    armCheck ready 9 { fields with limitSet := 4 } = some (.range, 3) ∧
    armCheck ready 9 { fields with hand := 2 } = some (.range, 4) ∧
    armCheck ready 9 { fields with pitch := 9 } = some (.range, 5) ∧
    armCheck ready 9 { fields with nominal := 1999 } = some (.range, 6) ∧
    armCheck ready 9 { fields with leadCrop := 64 } = some (.range, 7) ∧
    armCheck ready 9 { fields with tailCrop := 64 } = some (.range, 8) ∧
    armCheck ready 9 edgeFields = some (.noGrade, 0) ∧
    armCheck (holding (recordIn .armed)) 5 fields = some (.duplicate, 0) ∧
    armCheck { ready with armQueue := [0, 1, 2, 3] } 9 fields = some (.queueFull, 0) ∧
    armCheck { ready with armQueue := [0, 1, 2] } 9 fields = none := by decide +kernel

theorem test_meets_ArmWithoutFreeSlot : occupied.Admits h1 rowArm ∧ fields.grade.toNat ≤ 31 ∧
    (occupied.material (ShellFields.settings fields).grade).fields ≠ none ∧
    (∀ j, (occupied.slot j).state ≠ .free → (occupied.slot j).shellId ≠ some (5 : Word)) ∧ occupied.armQueue.length < 4 ∧
    (∀ j, (occupied.slot j).state ≠ .free) ∧ (occupied.allocSlot.map Prod.fst) = some 0 ∧
    ({ occupied with eviction := false }).allocSlot = none := ⟨admits_at_reset _ _ rfl, by decide +kernel⟩

theorem test_meets_AllocationEvictsOldest :
    (∀ i, (occupied.slot i).state ≠ .free) ∧ occupied.completion = [] ++ 0 :: slotOrder.tail ∧ occupied.eviction = true ∧
    (occupied.slot 0).rejudging = false ∧ (occupied.slot 0).claims = [] ∧ occupied.completion.Nodup ∧
    ({ occupied with freeStrips := 0 }).freeStrips = 0 ∧ (occupied.slot 0).strips = [] ∧
    ((occupied.setSlot 0 zoneRecord).slot 0).strips ≠ [] ∧ 0 < ready.freeStrips ∧ 0 < ready.seekStrip.freeStrips ∧
    ({ ready with freeStrips := 0 }).seekStrip.freeStrips = 0 := by decide +kernel

theorem test_meets_FreeingDoesAll :
    let run : RejudgeRun := { slot := 0, copy := .powerOn, reached := 0 }
    ({ occupied with engine := some run }).engine = some run ∧ run.slot = 0 ∧ run.slot ≠ 1 := by decide

theorem test_meets_DisarmFreesArmedRecord : (holding (recordIn .armed)).Admits h1 rowDisarm ∧
    (holding (recordIn .armed)).resolve slot0 = .ok 0 ∧ (holding (recordIn .measuring)).resolve slot0 = .ok 0 :=
  ⟨admits_at_reset _ _ rfl, rfl, rfl⟩

theorem test_meets_LookupAnswersHeader : (holding (recordIn .armed)).Admits h1 rowLookup ∧
    (holding (recordIn .armed)).resolve ⟨0, 5⟩ = .ok 0 := ⟨admits_at_reset _ _ rfl, rfl⟩

theorem test_meets_FindListsMatches : (holding (recordIn .armed)).Admits h1 rowFind ∧
    (∃ k : Nat, (k = 0 ∨ 6 ≤ k) ∧ (0x40 : Byte).getLsbD k = true) ∧ (∃ k : Nat, 5 ≤ k ∧ (0x20 : Byte).getLsbD k = true) ∧
    (∃ k : Nat, 17 ≤ k ∧ (0x20000 : BitVec 24).getLsbD k = true) ∧
    (∀ k : Nat, k = 0 ∨ 6 ≤ k → (0 : Byte).getLsbD k = false) ∧ (∀ k : Nat, 5 ≤ k → (0 : Byte).getLsbD k = false) ∧
    (∀ k : Nat, 17 ≤ k → (0 : BitVec 24).getLsbD k = false) :=
  ⟨admits_at_reset _ _ rfl, ⟨6, by decide⟩, ⟨5, by decide⟩, ⟨17, by decide⟩, fun _ _ => by simp, fun _ _ => by simp,
    fun _ _ => by simp⟩

/-- An AMEND of every field, at the ends of the ranges. -/
def allFields : AmendFields :=
  { shellId := some 6, limitSet := some 3, tailCrop := some 63, grade := some 0, hand := some 1, pitch := some 200
    nominal := some 100000, leadCrop := some 63, clearHistory := some 511 }

theorem test_meets_AmendChangesSelectedFields :
    let s := holding (recordIn .armed)
    s.Admits h1 rowAmend ∧ s.resolve slot0 = .ok 0 ∧ (s.slot 0).retirePending = false ∧ (s.slot 0).rejudging = false ∧
    (∀ v, allFields.shellId = some v → ∀ j, j ≠ 0 → (s.slot j).state ≠ .free → (s.slot j).shellId ≠ some v) ∧
    (∀ v, allFields.limitSet = some v → v.toNat ≤ 3) ∧ (∀ v, allFields.tailCrop = some v → v.toNat ≤ 63) ∧
    (∀ v, allFields.grade = some v → (s.slot 0).state = .armed ∧
      ∃ g : Fin Config.materials, v.toNat = g.val ∧ (s.material g).fields ≠ none) ∧
    (∀ v, allFields.hand = some v → (s.slot 0).state = .armed ∧ v.toNat ≤ 1) ∧
    (∀ v, allFields.pitch = some v → (s.slot 0).state = .armed ∧ 10 ≤ v.toNat ∧ v.toNat ≤ 200) ∧
    (∀ v, allFields.nominal = some v → (s.slot 0).state = .armed ∧ 2000 ≤ v.toNat ∧ v.toNat ≤ 100000) ∧
    (∀ v, allFields.leadCrop = some v → (s.slot 0).state = .armed ∧ v.toNat ≤ 63) ∧
    (∀ v, allFields.clearHistory = some v → v.toNat < 512) := by
  refine ⟨admits_at_reset _ _ rfl, rfl, rfl, rfl, ?_, ?_, ?_, ?_, ?_, ?_, ?_, ?_, ?_⟩ <;> intro v selected <;>
    cases selected <;> decide +kernel

/-- The first failing check of AMEND on the record in slot 0, as the statement of its refusals takes them in order. -/
def amendCheck (s : State) (f : AmendFields) : Option (ReplyCode × Nat) :=
  if (s.slot 0).retirePending = true then some (ReplyCode.state, 0)
  else if (s.slot 0).rejudging = true then some (.busy, 0)
  else if (f.shellId.any fun v =>
    decide (∃ j, j ≠ 0 ∧ (s.slot j).state ≠ .free ∧ (s.slot j).shellId = some v)) = true then some (.duplicate, 1)
  else if (f.limitSet.any fun v => decide (3 < v.toNat)) = true then some (.range, 2)
  else if (f.tailCrop.any fun v => decide (63 < v.toNat)) = true then some (.range, 3)
  else if f.grade ≠ none ∧ (s.slot 0).state ≠ .armed then some (.state, 4)
  else if (f.grade.any fun v => decide (31 < v.toNat)) = true then some (.range, 4)
  else if (f.grade.any fun v =>
    decide (∃ g : Fin Config.materials, g.val = v.toNat ∧ (s.material g).fields = none)) = true then some (.noGrade, 4)
  else if f.hand ≠ none ∧ (s.slot 0).state ≠ .armed then some (.state, 5)
  else if (f.hand.any fun v => decide (1 < v.toNat)) = true then some (.range, 5)
  else if f.pitch ≠ none ∧ (s.slot 0).state ≠ .armed then some (.state, 6)
  else if (f.pitch.any fun v => decide (v.toNat < 10 ∨ 200 < v.toNat)) = true then some (.range, 6)
  else if f.nominal ≠ none ∧ (s.slot 0).state ≠ .armed then some (.state, 7)
  else if (f.nominal.any fun v => decide (v.toNat < 2000 ∨ 100000 < v.toNat)) = true then some (.range, 7)
  else if f.leadCrop ≠ none ∧ (s.slot 0).state ≠ .armed then some (.state, 8)
  else if (f.leadCrop.any fun v => decide (63 < v.toNat)) = true then some (.range, 8)
  else if (f.clearHistory.any fun v => decide (512 ≤ v.toNat)) = true then some (.range, 9)
  else none

/-- An AMEND that selects nothing. -/
def noFields : AmendFields := ⟨none, none, none, none, none, none, none, none, none⟩

theorem test_meets_AmendRefusesInOrder :
    (amendCheck occupied { noFields with shellId := some 101 } = some (.duplicate, 1) ∧
      [{ noFields with limitSet := some 4 }, { noFields with tailCrop := some 64 }, { noFields with grade := some 32 },
        { noFields with grade := some 31 }, { noFields with hand := some 2 }, { noFields with pitch := some 201 },
        { noFields with nominal := some 1999 }, { noFields with leadCrop := some 64 },
        { noFields with clearHistory := some 512 }].map (amendCheck (holding (recordIn .armed))) =
        [some (.range, 2), some (.range, 3), some (.range, 4), some (.noGrade, 4), some (.range, 5), some (.range, 6),
          some (.range, 7), some (.range, 8), some (.range, 9)] ∧
      [{ noFields with grade := some 0 }, { noFields with hand := some 0 }, { noFields with pitch := some 10 },
        { noFields with nominal := some 2000 }, { noFields with leadCrop := some 0 }].map
          (amendCheck (holding (recordIn .complete))) =
        [some (.state, 4), some (.state, 5), some (.state, 6), some (.state, 7), some (.state, 8)]) ∧
    amendCheck (holding { recordIn .complete with retirePending := true }) noFields = some (.state, 0) ∧
    amendCheck (holding { recordIn .complete with rejudging := true }) noFields = some (.busy, 0) := by decide +kernel

theorem test_meets_TemplateIsWrittenAndRead : State.reset.Admits h1 rowTemplateWrite ∧
    State.reset.Admits h1 rowTemplateRead ∧ edgeFields.grade.toNat ≤ 31 ∧ edgeFields.limitSet.toNat ≤ 3 ∧
    edgeFields.hand.toNat ≤ 1 := ⟨admits_at_reset _ _ rfl, admits_at_reset _ _ rfl, by decide⟩

theorem test_meets_TrackerSetStoresSettings : State.reset.Admits h1 rowTrackerSet ∧ State.reset.tracker.contexts = [] ∧
    State.reset.tracker.blind = false ∧ (tracking (recordIn .measuring) .measuring).Admits h1 rowTrackerSet ∧
    (tracking (recordIn .measuring) .measuring).tracker.contexts ≠ [] :=
  ⟨admits_at_reset _ _ rfl, rfl, rfl, admits_at_reset _ _ rfl, by decide⟩

/-- A tracker whose debounce interval is in progress. -/
def debouncing (entry : Level) (s : State) : State :=
  s.setTracker { s.tracker with entry, raw := entry.other, candidate := some 105620 }

theorem test_meets_EntryEdgesFollowLevel :
    let s := debouncing .lit (tracking (recordIn .measuring) .measuring)
    let u := debouncing .lit (tracking (recordIn .finishing) .finishing)
    (s.tracker.entry = .lit ∧ s.tracker.candidate = some 105620 ∧
      s.tracker.contexts = [] ++ context .measuring :: [] ∧ (context .measuring).role = .measuring ∧
      (s.tracker.contexts.map Context.slot).Nodup) ∧
    (u.tracker.entry = .lit ∧ u.tracker.candidate = some 105620 ∧ ∀ c ∈ u.tracker.contexts, c.role = .finishing) ∧
    State.reset.tracker.entry = .dark := by decide +kernel

/-- Two FINISHING records with their contexts. -/
def twoFinishing : State :=
  (((holding { recordIn .finishing with length := some 2810 }).setSlot 1
    { recordIn .finishing with shellId := some 6, length := some 3000 })).setTracker
    { State.reset.tracker with
      contexts := [context .finishing, { context .finishing with slot := 1 }], stallTimer := .running, advance := 104000 }

theorem test_meets_LitEdgeOpensPassage :
    let s := debouncing .dark { ready with armQueue := [3, 1] }
    let u := debouncing .dark twoFinishing
    (s.tracker.entry = .dark ∧ s.tracker.candidate = some 105620 ∧ s.tracker.contexts.length < 2 ∧ s.armQueue = 3 :: [1]) ∧
    (u.tracker.entry = .dark ∧ u.tracker.candidate = some 105620 ∧
      u.tracker.contexts = context .finishing :: { context .finishing with slot := 1 } :: []) ∧
    ((debouncing .dark State.reset).armQueue = [] ∧
      (State.reset.material State.reset.template.grade).fields = none) ∧
    ((debouncing .dark ready).armQueue = [] ∧ (ready.material ready.template.grade).fields ≠ none ∧
      (ready.allocSlot.map Prod.fst) = some 0) ∧
    State.reset.tracker.candidate = none := by decide +kernel

theorem test_meets_ReportsAreStamped :
    let s := (tracking (recordIn .measuring) .measuring).setTracker
      { (tracking (recordIn .measuring) .measuring).tracker with spin := .synced }
    State.reset.tracker.spin = .unsynced ∧ State.reset.tracker.contexts = [] ∧ s.tracker.spin = .synced ∧
    s.tracker.contexts = [] ++ context .measuring :: [] ∧
    0 ≤ (((s.tracker.advance - (context .measuring).front).toNat * 1000 / s.tracker.settings.advanceScale : Nat) : Int) -
      (s.tracker.settings.headPlane : Int) - (s.head 0).settings.offset ∧
    s.stamp 2 ≠ .unplaced ∧ (s.slot 0).shell.hand = .forward ∧
    (settings.hand = .counter ∨ ({ settings with hand := .counter }).hand = .counter) := by decide +kernel

theorem test_meets_CompletionFillsAndJudges :
    let s := holding { recordIn .finishing with length := some 2810 }
    (s.slot 0).length = some 2810 ∧ min 1024 ((2810 + 40 - 1) / 40) - (s.slot 0).strips.length = 71 ∧ 71 ≤ s.freeStrips ∧
    (({ s with freeStrips := 70 }).freeStrips < 71 ∧ ∀ j ∈ s.completion, (s.slot j).claims ≠ []) := by decide +kernel

/-- The part with no strip free and a COMPLETE record of `n` strips in slot 1 to evict. -/
def pressed (n : Nat) (s : State) : State :=
  { s.setSlot 1 { recordIn .complete with shellId := some 6, strips := List.replicate n { state := .closed } } with
    completion := [1], freeStrips := 0 }

theorem test_meets_CompletionEvicts :
    let s := fun n => pressed n (holding { recordIn .finishing with length := some 80 })
    ((s 2).slot 0).length = some 80 ∧ min 1024 ((80 + 40 - 1) / 40) - ((s 2).slot 0).strips.length = 2 ∧
    (State.allocStrips 2 0 ((s 2).setSlot 0 ((s 2).slot 0))).2 = true ∧
    (State.allocStrips 2 0 ((s 1).setSlot 0 ((s 1).slot 0))).2 = false := by decide +kernel

theorem test_meets_AdvanceCountsAndCloses : (∃ p, (State.reset.head p).settings.offset = 0) ∧
    ∀ p, (State.reset.head p).settings.offset ≤ 0 := by decide

theorem test_meets_StallVoidsRecords : State.reset.tracker.contexts = [] ∧ State.reset.tracker.blind = false ∧
    twoFinishing.tracker.contexts ≠ [] ∧ (twoFinishing.tracker.contexts.map Context.slot).Nodup := by decide +kernel

theorem test_meets_SpinKeepsTurn :
    let t := fun (n : Half) => { State.reset.tracker with spin := .synced, spinCount := n }
    State.reset.tracker.spin = .unsynced ∧ (t 1041).spin = .synced ∧ 1024 + 1024 / 64 < (t 1041).spinCount.toNat ∧
    (t 1007).spinCount.toNat + 1024 / 64 < 1024 ∧
    ((t 1040).spinCount.toNat ≤ 1024 + 1024 / 64 ∧ 1024 ≤ (t 1008).spinCount.toNat + 1024 / 64) := by decide

theorem test_meets_HeadCommandsAct : (0 : Byte).toNat = 0 ∧ 6 < (7 : Byte).toNat ∧
    (1 : Byte).toNat = (0 : Fin Config.heads).val + 1 ∧ (6 : Byte).toNat = (5 : Fin Config.heads).val + 1 ∧
    State.reset.Admits h1 rowHeadSet ∧ State.reset.Admits h1 rowHeadEnable ∧ State.reset.Admits h1 rowHeadDisable ∧
    State.reset.Admits h1 rowHeadRead :=
  ⟨by decide, by decide, by decide, by decide, admits_at_reset _ _ rfl, admits_at_reset _ _ rfl,
    admits_at_reset _ _ rfl, admits_at_reset _ _ rfl⟩

/-- The part with head 1 enabled and its line idle, with the given queue. -/
def listening (form : ReportForm) (queue : List Report) (s : State) : State :=
  s.setHead 0 { s.head 0 with
    state := .idle, line := .idle, queue, ready := decide (queue.length < 8)
    settings := { (s.head 0).settings with form } }

/-- A report in a queue. -/
def queuedReport : Report := { sequence := 1, interval := 8000, amplitude := 140, temperature := none, stamp := .unplaced }

/-- The FULL report of R208's example. -/
def fullOctets : List Byte := [12, 0x40, 0x1F, 140, 0x4C, 0x04, 184]

theorem test_meets_ReportsReachQueue :
    let s := listening .full [] State.reset
    let u := listening .basic (List.replicate 8 queuedReport) State.reset
    ((s.head 0).state ≠ .disabled ∧ (s.head 0).line = .idle ∧ fullOctets.length = 7 ∧
      fullOctets.foldl (· + ·) 0 = 255 ∧ (s.head 0).queue.length < (s.head 0).settings.depth) ∧
    ((u.head 0).state ≠ .disabled ∧ (u.head 0).line = .idle ∧ ([1, 2, 3, 4, 245] : List Byte).length = 5 ∧
      ([1, 2, 3, 4, 245] : List Byte).foldl (· + ·) 0 = 255 ∧
      (u.head 0).settings.depth ≤ (u.head 0).queue.length) := by decide +kernel

theorem test_meets_RunsAndSilenceAreCounted :
    let good : List RunOctet := [⟨1, false⟩, ⟨2, false⟩, ⟨3, false⟩, ⟨4, false⟩, ⟨245, false⟩]
    let s := listening .basic [] State.reset
    (State.reset.head 0).line = .ignoring ∧ (s.head 0).line = .idle ∧ (s.head 0).state ≠ .disabled ∧
    (((State.reset.setLine 0 .idle).head 0).line = .idle ∧ ((State.reset.setLine 0 .idle).head 0).state = .disabled) ∧
    (good.take 4).length < 5 ∧
    (5 ≤ (good.map fun o => { o with fault := true }).length ∧
      ((good.map fun o => { o with fault := true }).take 5).any RunOctet.fault = true) ∧
    (5 < (good ++ good).length ∧ ((good ++ good).take 5).any RunOctet.fault = false ∧
      (((good ++ good).take 5).map RunOctet.value).foldl (· + ·) 0 = 255) ∧
    ((s.setHead 0 { s.head 0 with state := .running }).head 0).state = .running ∧
    twoFinishing.tracker.contexts ≠ [] := by decide +kernel

/-- A report stamped for slot 0. -/
def placedReport (station : Nat) : Report := { queuedReport with stamp := .placed 0 0 station 1200 7 }

/-- A strip that has been closed. -/
def closedStrip : Strip := { state := .closed }

theorem test_meets_ShotServiceTakesReport :
    let s := listening .full [placedReport 0] (holding { recordIn .measuring with strips := [closedStrip, {}] })
    (∀ p, (State.reset.head p).queue = []) ∧
    ((s.head 0).queue = placedReport 0 :: [] ∧
      ∀ k : Fin Config.heads, k - s.pointer - 1 < 0 - s.pointer - 1 → (s.head k).queue = []) ∧
    ((s.slot 0).state = .measuring ∧ (s.slot 0).generation = 0 ∧ 1023 < 1024 ∧
      (s.slot 0).strips[0]? = some closedStrip ∧ (s.slot 0).strips[1]? = some ({} : Strip) ∧
      (s.slot 0).strips.length ≤ 1023 ∧ 1023 + 1 - (s.slot 0).strips.length ≤ s.freeStrips) ∧
    ({ s with freeStrips := 0, eviction := false }).freeStrips < 2 + 1 - (s.slot 0).strips.length ∧
    ((State.allocStrips (3 + 1 - (s.slot 0).strips.length) 0 (pressed 2 s)).2 = true ∧
      (State.allocStrips (3 + 1 - (s.slot 0).strips.length) 0 (pressed 1 s)).2 = false) := by decide +kernel

theorem test_meets_ShotsClassifyAndConvert :
    ((holding (recordIn .measuring)).material ((holding (recordIn .measuring)).slot 0).shell.grade).fields = some grade ∧
    ((19 : Nat) < grade.echoFloor) ∧ (queuedReport.interval ≠ 0 ∧ grade.echoFloor ≤ queuedReport.amplitude ∧
      queuedReport.amplitude ≠ 255) ∧ ({ queuedReport with amplitude := 255 }).amplitude = 255 ∧
    ({ queuedReport with interval := 0 }).interval = 0 ∧ 59 < grade.weak ∧ ¬60 < grade.weak := by decide +kernel

theorem test_meets_CellsTakeAcceptedShots : ({} : Cell).state = .empty ∧ ({} : Cell).accepted < 255 ∧
    255 ≤ ({ state := .settled, accepted := 255 } : Cell).accepted ∧
    LimitSet.powerOn.settle = 3 ∧ ({ LimitSet.powerOn with settle := 0 }).settle = 0 ∧
    ({ state := .opened, need := 1 } : Cell).need ≤ 1 ∧ 1 < ({ state := .opened, need := 2 } : Cell).need := by decide

theorem test_meets_LimitsJudgeCells : LimitSet.powerOn.controls.getLsbD 0 = false ∧
    ({ LimitSet.powerOn with controls := 1 }).controls.getLsbD 0 = true ∧
    LimitSet.powerOn.judgeCell 21000 { accepted := 1, sum := 18900 } = .pass ∧
    LimitSet.powerOn.judgeCell 21000 { accepted := 1, sum := 18899 } = .thin ∧
    LimitSet.powerOn.judgeCell 21000 { accepted := 1, sum := 23100 } = .pass ∧
    LimitSet.powerOn.judgeCell 21000 { accepted := 1, sum := 23101 } = .thick := by decide

theorem test_meets_StripsCloseWithWorstDeviation :
    let r := { recordIn .measuring with strips := [closedStrip, stripBefore, stripBefore] }
    (r.strips[0]? = some closedStrip ∧ closedStrip.state = .closed) ∧ r.strips.length ≤ 3 ∧
    (r.strips[1]? = some stripBefore ∧ stripBefore.state = .opened ∧ 1 < r.shell.leadCrop) ∧
    (r.strips[2]? = some stripBefore ∧ r.shell.leadCrop ≤ 2) ∧ (∀ k : Fin Config.sectors, closedStrip.cells[k].accepted = 0) ∧
    (0 < stripBefore.cells[(0 : Fin Config.sectors)].accepted) := by decide +kernel

/-- Zones from station 0 on, two apart. -/
def manyZones (n : Nat) : List Zone := (List.range n).map fun k => { first := 3 * k, last := 3 * k + 1, kinds := 1, worst := 5 }

theorem test_meets_ZonesTakeCandidates :
    ({ recordIn .measuring with zones := manyZones 16 }).ZonesOrdered ∧
    (∀ z ∈ manyZones 16, z.last + 1 < 48) ∧ 16 ≤ (manyZones 16).length ∧
    manyZones 16 = (manyZones 16).take 15 ++ [{ first := 45, last := 46, kinds := 1, worst := 5 }] ∧
    ((manyZones 16).take 15).length < 16 ∧
    (47 ≤ 46 + 1 ∧ ∀ z ∈ (manyZones 16).take 15, z.last + 1 < min 45 47) ∧
    ((manyZones 16).take 15 = (manyZones 16).take 14 ++ [{ first := 42, last := 43, kinds := 1, worst := 5 }] ∧
      44 ≤ 46 + 1 ∧ min 45 44 ≤ 43 + 1) :=
  ⟨⟨by decide, by decide, by decide +kernel, by decide +kernel⟩, by decide +kernel⟩

theorem test_meets_VerdictsFollowZones :
    let judged := fun (n : Nat) => (n : Int) - (settings.leadCrop : Int) - (settings.tailCrop : Int)
    judged 4 < 1 ∧ 1 ≤ judged 5 ∧ ({ recordIn .finishing with strips := List.replicate 5 closedStrip }).zones = [] ∧
    ({ recordIn .finishing with strips := List.replicate 5 closedStrip, zones := [⟨2, 2, 1, 5⟩] }).trimmedZones ≠ [] := by
  decide +kernel

theorem test_meets_MaterialCommandsAct : 31 < (32 : Byte).toNat ∧ (31 : Byte).toNat = (31 : Fin Config.materials).val ∧
    ready.Admits h1 rowMaterialWrite ∧ ready.Admits h1 rowMaterialClear ∧ ready.Admits h1 rowMaterialRead :=
  ⟨by decide, by decide, admits_at_reset _ _ rfl, admits_at_reset _ _ rfl, admits_at_reset _ _ rfl⟩

theorem test_meets_limit_commands : 3 < (4 : Byte).toNat ∧ (3 : Byte).toNat = (3 : Fin Config.limitSets).val ∧
    State.reset.Admits h1 rowLimitWrite ∧ State.reset.Admits h1 rowLimitRead :=
  ⟨by decide, by decide, admits_at_reset _ _ rfl, admits_at_reset _ _ rfl⟩

theorem test_meets_PoolCommandsAct : State.reset.Admits h1 rowPoolStatus ∧ State.reset.Admits h1 rowPoolSet ∧
    (2 : Byte) ≠ 0 ∧ (2 : Byte) ≠ 1 := ⟨admits_at_reset _ _ rfl, admits_at_reset _ _ rfl, by decide, by decide⟩

theorem test_meets_StripsAndZonesAreRead :
    let s := holding { recordIn .complete with strips := List.replicate 3 closedStrip }
    s.resolve slot0 = .ok 0 ∧ s.Admits h1 rowReadStrips ∧ s.Admits h1 rowReadZones ∧ (s.slot 0).rejudging = false ∧
    1 < (2 : Byte).toNat ∧ (0 : Byte).toNat < 1 ∧ 6 < (7 : Byte).toNat ∧ 2 < (3 : Byte).toNat ∧
    (s.slot 0).strips.length ≤ (3 : Half).toNat ∧ (2 : Half).toNat < (s.slot 0).strips.length ∧
    ((holding { recordIn .complete with rejudging := true }).slot 0).rejudging = true :=
  ⟨rfl, admits_at_reset _ _ rfl, admits_at_reset _ _ rfl, by decide +kernel⟩

/-- A rejudge run in slot 0 that has reached a station of three. -/
def rejudging (reached : Nat) : State :=
  { holding { recordIn .complete with strips := List.replicate 3 closedStrip, rejudging := true } with
    engine := some { slot := 0, copy := .powerOn, reached } }

theorem test_meets_RejudgeRunsToItsEnd :
    let s := holding { recordIn .complete with strips := [closedStrip] }
    (s.Admits h1 rowRejudge ∧ s.resolve slot0 = .ok 0) ∧ ((s.slot 0).state = .complete ∧ (s.slot 0).retirePending = false ∧
      s.engine = none ∧ (s.slot 0).strips ≠ []) ∧ ((holding (recordIn .complete)).slot 0).strips = [] ∧
    ((holding (recordIn .measuring)).slot 0).state = .measuring ∧ (rejudging 2).engine ≠ none ∧
    ((rejudging 2).slot 0).strips[2]? = some closedStrip ∧ ((rejudging 3).slot 0).strips.length ≤ 3 :=
  ⟨⟨admits_at_reset _ _ rfl, rfl⟩, by decide +kernel⟩

theorem test_meets_ClaimsAreHeldAndReleased : (holding (recordIn .complete)).Admits h1 rowClaim ∧
    (holding (recordIn .complete)).Admits h1 rowRelease ∧ (holding (recordIn .complete)).resolve slot0 = .ok 0 :=
  ⟨admits_at_reset _ _ rfl, admits_at_reset _ _ rfl, rfl⟩

theorem test_meets_RetireFreesRecords : (holding (recordIn .complete)).Admits h1 rowRetire ∧
    (holding (recordIn .complete)).resolve slot0 = .ok 0 ∧ ((holding (recordIn .complete)).slot 0).claims = [] ∧
    ((holding { recordIn .complete with claims := [9] }).slot 0).claims ≠ [] ∧
    ((holding { recordIn .void with rejudging := true }).slot 0).rejudging = true ∧
    ((holding (recordIn .armed)).slot 0).state = .armed ∧ ((holding (recordIn .finishing)).slot 0).state = .finishing ∧
    (1 : Byte) ≠ 0 := ⟨admits_at_reset _ _ rfl, rfl, by decide +kernel⟩

theorem test_meets_AddressAndRingMembership : State.reset.Admits h1 rowSetAddress ∧ State.reset.Admits h1 rowJoinRing ∧
    State.reset.Admits h1 rowLeaveRing := ⟨admits_at_reset _ _ rfl, admits_at_reset _ _ rfl, admits_at_reset _ _ rfl⟩

/-- A STATIONS WRITE of entries 0 and 7. -/
def twoEntries (a0 r0 a7 r7 : Byte) : StationFields :=
  { highSelect := 0, entries := Vector.ofFn fun k => if k = 0 then some (a0, r0) else if k = 7 then some (a7, r7) else none }

theorem test_meets_StationsWriteReplacesEntries : State.reset.Admits h1 rowStationsWrite ∧
    ({ twoEntries 21 1 22 63 with highSelect := 1 }).highSelect ≠ 0 ∧
    [twoEntries 21 1 1 63, twoEntries 21 1 22 64, twoEntries 21 1 21 63, twoEntries 21 1 22 63].map
        (fun f => StationFields.fault f State.reset.ring.stations) =
      [some (.range, 8), some (.range, 8), some (.duplicate, 1), none] :=
  ⟨admits_at_reset _ _ rfl, by decide, by decide +kernel⟩

theorem test_meets_FramesMoveRingPort : frameCheck (List.replicate 41 true) = .discarded .format ∧
    frameCheck (List.replicate 40 true) = .discarded .check ∧ (List.replicate 39 true).length < 40 ∧
    (40 ≤ (List.replicate 41 true).length ∧ (List.replicate 41 true).length % 8 ≠ 0) ∧
    pollFrameOctets 40 1 = [40, 1, 3, (pollFrameOctets 40 1).getD 3 0, (pollFrameOctets 40 1).getD 4 0] ∧
    frameCheck (bitsOf (pollFrameOctets 40 1)) = .passed (pollFrameOctets 40 1) ∧
    frameCheck (bitsOf (pollFrameOctets 40 0)) = .discarded .format ∧
    frameCheck (bitsOf (withCheck [40, 1, 4])) = .discarded .format ∧
    frameCommand 40 (bitsOf (pollFrameOctets 77 1)) = .delimiterReceived := by decide +kernel

/-- The part in a turn. -/
def inTurn (phase : TurnPhase) (n : Nat) : State :=
  let s := queued n State.reset
  s.setRing { s.ring with state := .active, bypass := false, phase }

theorem test_meets_TurnsSendReplies : (queued 0 State.reset).ring.replies = [] ∧
    ((inTurn .sending 2).ring.state = .active ∧ (inTurn .sending 2).ring.phase = .sending ∧
      (inTurn .sending 2).ring.replies ≠ [] ∧ (inTurn .sending 2).ring.sentInTurn + 1 < 8) ∧
    (inTurn .releasing 0).ring.phase = .releasing ∧ (inTurn .cutting 1).ring.phase = .cutting ∧
    8 ≤ ({ (inTurn .sending 9).ring with sentInTurn := 7 }).sentInTurn + 1 ∧
    (let r := { (queued 1 State.reset).ring with state := .onRing, permit := true }
     r.permit = true ∧ r.state = .onRing ∧ r.replies ≠ []) := by decide +kernel

theorem test_meets_NoticesAreMaskedAndFetched : State.reset.Admits h1 rowNoticeMask ∧ State.reset.Admits h1 rowFetchNotice ∧
    2048 ≤ (2048 : Half).toNat ∧ (2047 : Half).toNat < 2048 ∧
    (∀ k : Fin 11, State.reset.notices.entries[k].pending = true → State.reset.notices.mask.getLsbD k = false) ∧
    (let s := State.reset.raise .stall .none
     s.notices.entries[(1 : Fin 11)].pending = true ∧ s.notices.mask.getLsbD 1 = true ∧
      ∀ j : Fin 11, j < 1 → s.notices.entries[j].pending = true → s.notices.mask.getLsbD j = false) :=
  ⟨admits_at_reset _ _ rfl, admits_at_reset _ _ rfl, by decide +kernel⟩

theorem test_meets_StatusAndCountersAreRead : twoFinishing.Admits h1 rowPartStatus ∧
    twoFinishing.tracker.contexts.length ≤ 2 ∧ twoFinishing.Admits h1 rowCountersRead ∧
    twoFinishing.Admits h1 rowCountersClear ∧ (twoFinishing.ring.state = .active → twoFinishing.ring.phase ≠ .none) :=
  ⟨admits_at_reset _ _ rfl, by decide, admits_at_reset _ _ rfl, admits_at_reset _ _ rfl, by decide⟩

theorem test_meets_RestartRestoresBlocks : h1.source = 1 ∧ h1.dest = (queued 15 State.reset).ring.address ∧
    (queued 15 State.reset).ring.replies.length < 16 ∧ ({ h1 with dest := 0 }).dest = 0 := by decide +kernel

/-- The part with an ARMED record in slot 0 as ARM places it. -/
def armed : State := after (.arm h1 5 fields) ready

theorem test_meets_StepKeepsLinesFollowing : LinesFollow armed ∧ CandidateFollows armed ∧
    ∃ t, step armed = .next t :=
  ⟨⟨by decide +kernel, by decide +kernel, by decide +kernel, by decide +kernel, by decide +kernel, by decide +kernel,
    by decide +kernel⟩, by unfold CandidateFollows; decide +kernel, _, rfl⟩

theorem test_meets_StepKeepsTableLinked : TableLinked armed where
  arming := ⟨by decide +kernel, by decide +kernel, by decide +kernel⟩
  completion := ⟨by decide +kernel, by decide +kernel⟩
  contexts := ⟨by decide +kernel, by decide +kernel, by decide +kernel, by decide +kernel, by decide +kernel,
    by decide +kernel, by decide +kernel, by decide +kernel⟩
  engine := by
    have idle : ∀ i, (armed.slot i).rejudging = false := by decide +kernel
    have none : armed.engine = Option.none := by decide +kernel
    exact ⟨fun i => by simp [idle i, none], fun i held => by simp [idle i] at held⟩
  pending := by unfold PendingLinked; decide +kernel
  blank := by unfold FreeBlank; decide +kernel
  ids := by unfold IdsDistinct; decide +kernel
  refs := ⟨by decide +kernel, by decide +kernel⟩
  verdicts := by unfold VerdictsLinked; decide +kernel

theorem test_meets_StepKeepsPoolWhole : PoolConserved armed := ⟨by decide +kernel, by decide +kernel⟩

theorem test_meets_StepKeepsBounds : Bounded armed where
  records := fun i => ⟨by revert i; decide +kernel, by revert i; decide +kernel, by revert i; decide +kernel,
    by revert i; decide +kernel, by revert i; decide +kernel, by revert i; decide +kernel, by revert i; decide +kernel⟩
  heads := fun h => ⟨by revert h; decide +kernel, by revert h; decide +kernel, by revert h; decide +kernel⟩
  replies := by decide +kernel
  ringCounters := by decide +kernel
  slips := by decide +kernel
  notices := by decide +kernel

theorem test_meets_StepKeepsZonesInOrder : ZonesInOrder armed := fun i =>
  ⟨by revert i; decide +kernel, by revert i; decide +kernel, by revert i; decide +kernel, by revert i; decide +kernel⟩

theorem test_meets_StepKeepsRingSound : RingSound (queued 3 State.reset).ring where
  phase := by decide
  sending := by decide
  address := by decide +kernel
  effects := fun reply among => by
    have same := List.eq_of_mem_replicate among
    subst same
    trivial
  stations := fun k st held => by
    have empty : ∀ k : Fin Config.stationEntries, (queued 3 State.reset).ring.stations[k] = none := by decide
    simp [empty k] at held
  distinct := fun j k _ st held => by
    have empty : ∀ k : Fin Config.stationEntries, (queued 3 State.reset).ring.stations[k] = none := by decide
    simp [empty j] at held

theorem test_meets_FramesReadBackAsCommands : (Instr.lookup h1 slot0).wellFormed = true ∧
    (commandFrame (.lookup h1 slot0)).map List.length = some 12 ∧
    (requestOctets (.lookup h1 slot0)).map (fun r => r.1.dest) = some 40 ∧ (Instr.poll 0 1).wellFormed = true := by
  decide +kernel

/-! ## Small tests of the commands -/

/-- Head 1 enabled with an idle line, and a MEASURING record of two strips in slot 0. -/
def measuring : State :=
  listening .full [] (tracking { recordIn .measuring with strips := [closedStrip, {}] } .measuring)

theorem test_report_joins_queue :
    let s := after (.headReport 0 fullOctets) measuring
    (s.head 0).queue = [⟨12, 8000, 140, some 1100, .unplaced⟩] ∧ (s.head 0).state = .running ∧
      (s.head 0).expected = some 13 ∧ (s.head 0).line = .spent false false := by decide +kernel
theorem test_short_run_is_corrupt :
    let s := after (.corrupt 0 [⟨1, false⟩]) measuring
    (s.head 0).counters[HeadCounter.corrupt.idx] = 1 ∧ (s.head 0).line = .idle := by decide +kernel
theorem test_shot_is_accepted :
    let s := after .shotService (listening .full [placedReport 1] measuring)
    (s.slot 0).accepted = 1 ∧ ((s.slot 0).strips[1]?.map fun st => st.cells[(7 : Fin Config.sectors)].sum) = some 21280 ∧
      (s.head 0).counters[HeadCounter.good.idx] = 1 ∧ s.pointer = 0 := by decide +kernel
theorem test_shot_is_late :
    let s := after .shotService (listening .full [placedReport 0] measuring)
    (s.slot 0).late = 1 ∧ (s.slot 0).accepted = 0 ∧ (s.head 0).counters[HeadCounter.late.idx] = 1 := by decide +kernel
theorem test_shot_finds_no_strip :
    let s := after .shotService { listening .full [placedReport 3] measuring with freeStrips := 1, eviction := false }
    (s.slot 0).strips.length = 3 ∧ hasHistory (s.slot 0).history .poolShort = true ∧
      s.notices.entries[NoticeKind.poolExhausted.idx].subject = .shell 5 := by decide +kernel
theorem test_silence_flags_bound_records :
    let s := after (.silenceTimeout 0) (after (.headReport 0 fullOctets) measuring)
    (s.head 0).state = .silent ∧ hasHistory (s.slot 0).history .headSilent = true := by decide +kernel
theorem test_stall_voids_the_record :
    let s := after .stall measuring
    (s.slot 0).state = .void ∧ (s.slot 0).verdict = .incomplete ∧ s.completion = [0] ∧ s.tracker.contexts = [] ∧
      s.notices.attention = true := by decide +kernel
theorem test_dark_edge_then_completion :
    let s := afterAll [.entryChange, .darkEdge] measuring
    (s.slot 0).state = .finishing ∧ (s.slot 0).length = some 51950 := by decide +kernel
theorem test_spin_timeout_flags :
    let s := afterAll [.indexPulse, .spinPulse, .spinTimeout] measuring
    s.tracker.spin = .unsynced ∧ s.tracker.spinCount = 1 ∧ hasHistory (s.slot 0).history .spinLost = true := by
  decide +kernel
theorem test_deferred_retirement_waits_for_release :
    let s := afterAll [.claim h1 slot0, .retireDeferred h1 slot0] (holding (recordIn .complete))
    (s.slot 0).retirePending = true ∧ ((after (.release h1 slot0) s).slot 0) = Record.free 1 ∧
      ((after (.release h1 slot0) s).material 0).refs = 0 := by decide +kernel
theorem test_forced_retirement_leaves_blind_passage :
    let s := after (.retireForce h1 slot0) measuring
    s.tracker.blind = true ∧ s.tracker.contexts = [] ∧ s.tracker.stallTimer = .running ∧ s.freeStrips = 4098 := by
  decide +kernel
theorem test_lookup_body_is_44_octets :
    (lastReply (after (.lookup h1 slot0) measuring)).map (fun r => (r.1, r.2.length)) = some (.done, 44) := by
  decide +kernel
theorem test_strip_forms_have_their_lengths :
    (lastReply (after (.readStrips h1 slot0 0 0 2) measuring)).map (fun r => r.2.length) = some (4 + 2 * 40) ∧
      (lastReply (after (.readStrips h1 slot0 1 0 2) measuring)).map (fun r => r.2.length) = some (8 + 2 * 118) := by
  decide +kernel
theorem test_referenced_entry_is_in_use :
    (lastReply (after (.materialClear h1 0) measuring)) = some (.inUse, [0]) := by decide +kernel
theorem test_notices_are_fetched_by_priority :
    let s := (State.reset.raise .shellComplete (.shell 9)).raise .stall .none
    (lastReply (after (.fetchNotice h1) s)).map (fun r => r.2.take 3) = some [2, 1, 0] := by decide +kernel
theorem test_address_changes_when_the_reply_is_sent :
    let s := after (.setAddress h1 11) State.reset
    let u := s.setRing { s.ring with state := .active, phase := .sending }
    s.ring.address = 40 ∧ (after .replySent u).ring.address = 44 ∧ (after .replySent u).ring.phase = .releasing := by
  decide +kernel
theorem test_leaving_takes_effect_at_the_turns_end :
    let s := after (.leaveRing h1) (inTurn .none 0)
    let u := s.setRing { s.ring with phase := .sending }
    (afterAll [.replySent, .turnEnd] u).ring.state = .offRing := by decide +kernel
theorem test_delimiter_cuts_a_turn :
    let s := after .turnCut (inTurn .sending 1)
    s.ring.phase = .cutting ∧ s.ring.counters[RingCounter.turnCut.idx] = 1 ∧ s.ring.replies.length = 1 ∧
      (after .cutEnd s).ring.state = .onRing := by decide +kernel
theorem test_status_never_reports_a_turn :
    [TurnPhase.sending, .releasing, .cutting].map (fun phase =>
      (lastReply (after (.partStatus h1) (inTurn phase 1))).map fun r => r.2.take 2) =
        [some [2, 0], some [2, 0], some [2, 0]] := by decide +kernel
theorem test_permit_set_in_a_release_stays :
    let s := after .replySent (inTurn .sending 1)
    let polled := after (.poll 40 1) (s.setRing { s.ring with permit := true })
    s.ring.phase = .releasing ∧ s.ring.permit = false ∧ polled.ring.permit = true ∧ polled.ring.state = .onRing ∧
      (after .turnEnd (s.setRing { s.ring with permit := true })).ring.permit = true := by decide +kernel
theorem test_station_rights_are_used :
    let s := after (.stationsWrite h1 (twoEntries 21 1 22 63)) State.reset
    (lastReply (after (.partStatus h21) s)).map Prod.fst = some .done ∧
      (lastReply (after (.poolSet h21 0) s)).map Prod.fst = some .denied ∧
      (after (.poolSet h21 0) s).ring.counters[RingCounter.denied.idx] = 1 := by decide +kernel
theorem test_restart_keeps_settings :
    let s := after (.restart h1) (after (.poolSet h1 0) measuring)
    s.eviction = false ∧ s.slot 0 = Record.free 0 ∧ s.tracker.advance = 104000 ∧ (s.head 0).state = .idle ∧
      s.tracker.candidate = some 104000 ∧ lastReply s = some (.done, []) := by decide +kernel
theorem test_rejudge_clears_and_ends :
    let s := after (.rejudge h1 slot0) (holding { recordIn .complete with strips := [closedStrip], derived := 1 })
    (s.slot 0).rejudging = true ∧ (s.slot 0).derived = 0 ∧
      (afterAll [.rejudgeStep, .rejudgeStep] s).engine = none := by decide +kernel
theorem test_bit_times_bring_the_command :
    let bits := delimiter ++ stuff 0 (bitsOf (pollFrameOctets 40 1)) ++ delimiter.dropLast
    let rx := (Receiver.powerOn.feed bits).1
    let s := { State.reset.setRing { State.reset.ring with rx } with ringIn := [false] }
    s.idle.pending = [.poll 40 1] ∧ s.idle.ringIn = [] := by decide +kernel

end Sys2Proof.Tests
end

/-! SUPPORT. How an invariant is carried through a step: the waiting commands, the receipt and answering of a request, and the commands that do not touch the shell table. -/

namespace Sys2Proof.Proofs

open Sys2Proof.Machine Sys2Proof.Laws

/-! ## Steps -/

/-- A property that every command and every bit time keeps, and that does not see the queue of waiting commands, is kept by every step. -/
theorem step_keeps {P : State → Prop} (dequeue : ∀ (s : State) rest, P s → P { s with pending := rest })
    (bitTime : ∀ s b rest, P s → P (s.ringBit b rest)) (command : ∀ i s t, P s → exec i s = .next t → P t)
    {s t : State} (holds : P s) (run : step s = .next t) : P t := by
  unfold step at run
  split at run
  · obtain rfl := Host.Outcome.next.inj run
    unfold State.idle
    split
    · exact holds
    · exact bitTime s _ _ holds
  · exact command _ _ t (dequeue s _ holds) run

/-! ## Requests -/

/-- What the receipt, the admission and the answering of a request do beside the command's own run keeps the property. -/
structure RequestSafe (P : State → Prop) : Prop where
  frame : ∀ s, P s → P s.frameIn
  count : ∀ s c, P s → P (s.countRing c)
  shed : ∀ s, P s → P (s.raise .requestsShed .none)
  enqueue : ∀ s h code a, P s → P (s.enqueue h code a)

/-- A request keeps what its receipt and its command's run keep. -/
theorem request_keeps {P : State → Prop} (safe : RequestSafe P) {run : State → State × Answer}
    (runs : ∀ s, P s → P (run s).1) {s : State} (holds : P s) (h : Header) (row : RequestRow) (fits : Bool) :
    P (s.request h row fits run) := by
  have framed := safe.frame s holds
  have admitted : P (s.frameIn.admitted h row fits run) := by
    unfold State.admitted
    split
    · exact safe.shed _ (safe.count _ _ framed)
    · split
      · exact safe.enqueue _ _ _ _ framed
      · split
        · exact safe.enqueue _ _ _ _ (safe.count _ _ framed)
        · exact safe.enqueue _ _ _ _ (runs _ framed)
  simp only [State.request]
  split
  · exact safe.count _ _ framed
  · split
    · split
      · exact admitted
      · exact safe.count _ _ framed
    · split
      · exact admitted
      · exact framed

/-- The meaning of a request command keeps what its receipt and its run keep. -/
theorem answering_keeps {P : State → Prop} (safe : RequestSafe P) {run : State → State × Answer}
    (runs : ∀ s, P s → P (run s).1) {h : Header} {row : RequestRow} {s t : State} (holds : P s)
    (next : answering h row run s = .next t) : P t := by
  obtain rfl := Host.Outcome.next.inj next
  exact request_keeps safe runs holds h row true

/-- A command that only reads keeps everything that its receipt keeps. -/
theorem reading_keeps {P : State → Prop} (safe : RequestSafe P) {answer : State → Answer}
    {h : Header} {row : RequestRow} {s t : State} (holds : P s)
    (next : answering h row (reading answer) s = .next t) : P t :=
  answering_keeps safe (fun _ kept => kept) holds next

/-- A resolved reference names a live record. -/
theorem resolve_live {s : State} {ref : RecordRef} {i : Fin Config.slots} (found : s.resolve ref = .ok i) :
    (s.slot i).state ≠ .free := by
  unfold State.resolve at found
  split at found
  · split at found
    · rename_i j hit
      obtain rfl := Except.ok.inj found
      have both := List.find?_some hit
      simp only [Bool.and_eq_true, Record.live, decide_eq_true_eq] at both
      exact both.1
    · exact absurd found (by simp)
  · split at found
    · split at found
      · dsimp only at found
        split at found
        · exact absurd found (by simp)
        · split at found
          · exact absurd found (by simp)
          · rename_i live _
            obtain rfl := Except.ok.inj found
            exact live
      · exact absurd found (by simp)
    · exact absurd found (by simp)

/-- A command on one record keeps what its run on a live record keeps. -/
theorem withRecord_keeps {P : State → Prop} {ref : RecordRef} {run : Fin Config.slots → State → State × Answer}
    (runs : ∀ i s, (s.slot i).state ≠ .free → P s → P (run i s).1) (s : State) (holds : P s) :
    P (withRecord ref run s).1 := by
  unfold withRecord
  split
  · rename_i i found
    exact runs i s (resolve_live found) holds
  · exact holds

/-! ## The shell table and what is linked with it -/

/-- Two states with the same records, lists, passages, rejudge run, material table and free strips. -/
structure SameTable (s t : State) : Prop where
  slots : t.slots = s.slots
  armQueue : t.armQueue = s.armQueue
  completion : t.completion = s.completion
  contexts : t.tracker.contexts = s.tracker.contexts
  blind : t.tracker.blind = s.tracker.blind
  entry : t.tracker.entry = s.tracker.entry
  engine : t.engine = s.engine
  materials : t.materials = s.materials
  freeStrips : t.freeStrips = s.freeStrips

theorem SameTable.refl (s : State) : SameTable s s := ⟨rfl, rfl, rfl, rfl, rfl, rfl, rfl, rfl, rfl⟩

theorem SameTable.trans {s t u : State} (first : SameTable s t) (second : SameTable t u) : SameTable s u where
  slots := second.slots.trans first.slots
  armQueue := second.armQueue.trans first.armQueue
  completion := second.completion.trans first.completion
  contexts := second.contexts.trans first.contexts
  blind := second.blind.trans first.blind
  entry := second.entry.trans first.entry
  engine := second.engine.trans first.engine
  materials := second.materials.trans first.materials
  freeStrips := second.freeStrips.trans first.freeStrips

theorem SameTable.slot {s t : State} (same : SameTable s t) (i : Fin Config.slots) : t.slot i = s.slot i := by
  simp [State.slot, same.slots]

theorem SameTable.material {s t : State} (same : SameTable s t) (g : Fin Config.materials) :
    t.material g = s.material g := by
  simp [State.material, same.materials]

theorem sameTable_setRing (s : State) (r : RingPort) : SameTable s (s.setRing r) := ⟨rfl, rfl, rfl, rfl, rfl, rfl, rfl, rfl, rfl⟩

theorem sameTable_setNotices (s : State) (n : NoticeUnit) : SameTable s (s.setNotices n) :=
  ⟨rfl, rfl, rfl, rfl, rfl, rfl, rfl, rfl, rfl⟩

theorem sameTable_raise (s : State) (k : NoticeKind) (subject : Subject) : SameTable s (s.raise k subject) :=
  sameTable_setNotices s _

theorem sameTable_setHead (s : State) (h : Fin Config.heads) (p : HeadPort) : SameTable s (s.setHead h p) :=
  ⟨rfl, rfl, rfl, rfl, rfl, rfl, rfl, rfl, rfl⟩

theorem sameTable_setLimit (s : State) (l : Fin Config.limitSets) (v : LimitSet) : SameTable s (s.setLimit l v) :=
  ⟨rfl, rfl, rfl, rfl, rfl, rfl, rfl, rfl, rfl⟩

theorem sameTable_setTracker {s : State} {t : Tracker} (contexts : t.contexts = s.tracker.contexts)
    (blind : t.blind = s.tracker.blind) (entry : t.entry = s.tracker.entry) : SameTable s (s.setTracker t) :=
  ⟨rfl, rfl, rfl, contexts, blind, entry, rfl, rfl, rfl⟩

theorem sameTable_pending (s : State) (rest : List Instr) : SameTable s { s with pending := rest } :=
  ⟨rfl, rfl, rfl, rfl, rfl, rfl, rfl, rfl, rfl⟩

theorem sameTable_ringBit (s : State) (b : Bool) (rest : List Bool) : SameTable s (s.ringBit b rest) :=
  ⟨rfl, rfl, rfl, rfl, rfl, rfl, rfl, rfl, rfl⟩

theorem sameTable_enqueue (s : State) (h : Header) (code : Byte) (a : Answer) : SameTable s (s.enqueue h code a) := by
  unfold State.enqueue
  split
  · exact sameTable_setRing s _
  · exact .refl s

/-- The receipt and the answering of a request do not touch the shell table. -/
theorem sameTable_requestSafe (s : State) : RequestSafe (SameTable s) where
  frame t same := same.trans (sameTable_setRing t _)
  count t _ same := same.trans (sameTable_setRing t _)
  shed t same := same.trans (sameTable_raise t _ _)
  enqueue t h code a same := same.trans (sameTable_enqueue t h code a)

/-! ## Head lines -/

theorem sameTable_validReport (s : State) (h : Fin Config.heads) (octets : List Byte) :
    SameTable s (s.validReport h octets) := by
  simp only [State.validReport]
  split
  · exact (sameTable_setHead s h _).trans (sameTable_raise _ _ _)
  · exact sameTable_setHead s h _

theorem sameTable_gather (s : State) (h : Fin Config.heads) (octets : List Byte) (fault : Bool) :
    SameTable s (s.gather h octets fault) := by
  unfold State.gather State.runReached
  split
  · split
    · exact (sameTable_setHead s h _).trans (sameTable_setHead _ h _)
    · exact (sameTable_validReport s h octets).trans (sameTable_setHead _ h _)
  · exact sameTable_setHead s h _

theorem sameTable_octetIn (s : State) (h : Fin Config.heads) (o : RunOctet) : SameTable s (s.octetIn h o) := by
  unfold State.octetIn
  split
  · exact .refl s
  · split
    · exact sameTable_gather s h _ _
    · exact sameTable_setHead s h _
  · exact sameTable_gather s h _ _
  · exact sameTable_setHead s h _
  · exact .refl s

theorem sameTable_octetsIn (h : Fin Config.heads) (octets : List RunOctet) (s : State) :
    SameTable s (s.octetsIn h octets) := by
  induction octets generalizing s with
  | nil => exact .refl s
  | cons o rest ih => exact (sameTable_octetIn s h o).trans (ih _)

theorem sameTable_lineGap (s : State) (h : Fin Config.heads) : SameTable s (s.lineGap h) := by
  unfold State.lineGap
  split
  · exact sameTable_setHead s h _
  · exact .refl s
  · exact (sameTable_setHead s h _).trans (sameTable_setHead _ h _)
  · split
    · exact (sameTable_setHead s h _).trans (sameTable_setHead _ h _)
    · exact sameTable_setHead s h _
  · exact (sameTable_setHead s h _).trans (sameTable_setHead _ h _)

/-! ## Commands that leave the shell table alone -/

theorem sameTable_trackerSet (f : TrackerFields) (s : State) : SameTable s (trackerSet f s).1 := by
  unfold trackerSet
  split
  · exact .refl s
  · split
    · exact .refl s
    · exact sameTable_setTracker rfl rfl rfl

theorem sameTable_headSet (head : Byte) (f : HeadFields) (s : State) : SameTable s (headSet head f s).1 := by
  unfold headSet
  split
  · exact .refl s
  · split
    · exact .refl s
    · split
      · exact .refl s
      · exact sameTable_setHead s _ _

theorem sameTable_headEnable (head : Byte) (s : State) : SameTable s (headEnable head s).1 := by
  unfold headEnable
  split
  · exact .refl s
  · split
    · exact .refl s
    · exact sameTable_setHead s _ _

theorem sameTable_headDisable (head : Byte) (s : State) : SameTable s (headDisable head s).1 := by
  unfold headDisable
  split
  · exact .refl s
  · exact sameTable_setHead s _ _

theorem sameTable_templateWrite (f : ShellFields) (s : State) : SameTable s (templateWrite f s).1 := by
  unfold templateWrite
  split
  · exact .refl s
  · exact ⟨rfl, rfl, rfl, rfl, rfl, rfl, rfl, rfl, rfl⟩

theorem sameTable_poolSet (setting : Byte) (s : State) : SameTable s (poolSet setting s).1 := by
  unfold poolSet
  split
  · exact .refl s
  · exact ⟨rfl, rfl, rfl, rfl, rfl, rfl, rfl, rfl, rfl⟩

theorem sameTable_limitWrite (set : Byte) (f : LimitFields) (s : State) : SameTable s (limitWrite set f s).1 := by
  unfold limitWrite
  split
  · exact .refl s
  · split
    · exact .refl s
    · exact sameTable_setLimit s _ _

theorem sameTable_setAddress (part : Byte) (s : State) : SameTable s (setAddress part s).1 := by
  unfold setAddress
  split <;> exact .refl s

theorem sameTable_stationsWrite (f : StationFields) (s : State) : SameTable s (stationsWrite f s).1 := by
  unfold stationsWrite
  split
  · exact .refl s
  · exact sameTable_setRing s _

theorem sameTable_joinRing (s : State) : SameTable s (joinRing s).1 := by
  unfold joinRing
  split
  · exact sameTable_setRing s _
  · exact .refl s

theorem sameTable_leaveRing (s : State) : SameTable s (leaveRing s).1 := by
  unfold leaveRing
  split
  · exact .refl s
  · exact sameTable_setRing s _
  · exact .refl s

theorem sameTable_noticeMask (mask : Half) (s : State) : SameTable s (noticeMask mask s).1 := by
  unfold noticeMask
  split
  · exact .refl s
  · exact sameTable_setNotices s _

theorem sameTable_fetchNotice (s : State) : SameTable s (fetchNotice s).1 := by
  unfold fetchNotice
  split
  · exact .refl s
  · exact sameTable_setNotices s _

theorem sameTable_countersClear (s : State) : SameTable s (countersClear s).1 :=
  (sameTable_setRing s _).trans (sameTable_setTracker rfl rfl rfl)

theorem sameTable_pollFrame (s : State) (dest source : Byte) : SameTable s (s.pollFrame dest source) := by
  have framed : SameTable s s.frameIn := sameTable_setRing s _
  simp only [State.pollFrame]
  split
  · exact framed.trans (sameTable_setRing _ _)
  · split
    · exact framed.trans (sameTable_setRing _ _)
    · exact framed

theorem sameTable_discardFrame (s : State) (content : List Bool) : SameTable s (s.discardFrame content) := by
  unfold State.discardFrame
  split
  · exact (sameTable_setRing s _).trans (sameTable_setRing _ _)
  · exact sameTable_setRing s _

/-- The commands that may change a record, a list of the shell table, a passage, the rejudge run, the material table or the pool. -/
def touchesTable : Instr → Bool
  | .arm .. | .disarm .. | .amend .. | .materialWrite .. | .materialClear .. | .rejudge .. | .claim .. | .release ..
  | .retireNow .. | .retireDeferred .. | .retireForce .. | .restart .. | .litEdge | .darkEdge | .advancePulse | .stall
  | .spinTimeout | .silenceTimeout .. | .shotService | .rejudgeStep | .powerOn .. => true
  | _ => false

/-- Every other command leaves the shell table and what is linked with it as it was. -/
theorem exec_sameTable {i : Instr} {s t : State} (apart : touchesTable i = false) (next : exec i s = .next t) :
    SameTable s t := by
  have same := SameTable.refl s
  have safe := sameTable_requestSafe s
  cases i with
  | arm | disarm | amend | materialWrite | materialClear | rejudge | claim | release | retireNow | retireDeferred
  | retireForce | restart | litEdge | darkEdge | advancePulse | stall | spinTimeout | silenceTimeout | shotService
  | rejudgeStep | powerOn => exact absurd apart (by simp [touchesTable])
  | lookup | readStrips | readZones =>
    exact answering_keeps safe (withRecord_keeps fun _ _ _ kept => kept) same next
  | find | templateRead | headRead | materialRead | poolStatus | limitRead | partStatus | countersRead =>
    exact reading_keeps safe same next
  | templateWrite h f =>
    exact answering_keeps safe (fun u kept => kept.trans (sameTable_templateWrite f u)) same next
  | trackerSet h f => exact answering_keeps safe (fun u kept => kept.trans (sameTable_trackerSet f u)) same next
  | headSet h head f => exact answering_keeps safe (fun u kept => kept.trans (sameTable_headSet head f u)) same next
  | headEnable h head => exact answering_keeps safe (fun u kept => kept.trans (sameTable_headEnable head u)) same next
  | headDisable h head => exact answering_keeps safe (fun u kept => kept.trans (sameTable_headDisable head u)) same next
  | poolSet h setting => exact answering_keeps safe (fun u kept => kept.trans (sameTable_poolSet setting u)) same next
  | limitWrite h set f => exact answering_keeps safe (fun u kept => kept.trans (sameTable_limitWrite set f u)) same next
  | setAddress h part => exact answering_keeps safe (fun u kept => kept.trans (sameTable_setAddress part u)) same next
  | stationsWrite h f => exact answering_keeps safe (fun u kept => kept.trans (sameTable_stationsWrite f u)) same next
  | joinRing h => exact answering_keeps safe (fun u kept => kept.trans (sameTable_joinRing u)) same next
  | leaveRing h => exact answering_keeps safe (fun u kept => kept.trans (sameTable_leaveRing u)) same next
  | noticeMask h mask => exact answering_keeps safe (fun u kept => kept.trans (sameTable_noticeMask mask u)) same next
  | fetchNotice h => exact answering_keeps safe (fun u kept => kept.trans (sameTable_fetchNotice u)) same next
  | countersClear h => exact answering_keeps safe (fun u kept => kept.trans (sameTable_countersClear u)) same next
  | malformed | ignoredBroadcast =>
    obtain rfl := Host.Outcome.next.inj next
    exact request_keeps safe (fun _ kept => kept) same _ _ _
  | poll dest source =>
    obtain rfl := Host.Outcome.next.inj next
    exact sameTable_pollFrame s dest source
  | frameDiscard content =>
    obtain rfl := Host.Outcome.next.inj next
    exact sameTable_discardFrame s content
  | longFrame | abort | idleRun | takeTurn | replySent | turnEnd | turnCut | cutEnd | delimiterReceived
  | entryChange | spinPulse | indexPulse =>
    obtain rfl := Host.Outcome.next.inj next
    exact ⟨rfl, rfl, rfl, rfl, rfl, rfl, rfl, rfl, rfl⟩
  | headReport port octets =>
    obtain rfl := Host.Outcome.next.inj next
    exact sameTable_octetsIn port _ s
  | corrupt port octets =>
    obtain rfl := Host.Outcome.next.inj next
    split
    · exact (sameTable_octetsIn port octets s).trans (sameTable_lineGap _ port)
    · exact sameTable_octetsIn port octets s
  | stray port octets =>
    obtain rfl := Host.Outcome.next.inj next
    exact (sameTable_octetsIn port octets s).trans (sameTable_lineGap _ port)
  | lineIdleGap port =>
    obtain rfl := Host.Outcome.next.inj next
    exact sameTable_lineGap s port

end Sys2Proof.Proofs

/-! SUPPORT. The links of the shell table, slot by slot: what a change of one record has to show to keep them. -/

namespace Sys2Proof.Proofs

open Sys2Proof.Machine Sys2Proof.Laws

/-! ## Links at one slot -/

/-- The links of the shell table that speak of one slot. -/
structure SlotLinked (s : State) (i : Fin Config.slots) : Prop where
  armed : i ∈ s.armQueue ↔ (s.slot i).state = .armed
  finished : i ∈ s.completion ↔ (s.slot i).finished = true
  generation : ∀ c ∈ s.tracker.contexts, c.slot = i → c.generation = (s.slot i).generation
  measuring : (∃ c ∈ s.tracker.contexts, c.slot = i ∧ c.role = .measuring) ↔ (s.slot i).state = .measuring
  finishing : (∃ c ∈ s.tracker.contexts, c.slot = i ∧ c.role = .finishing) ↔ (s.slot i).state = .finishing
  held : (s.slot i).rejudging = true ↔ ∃ run, s.engine = some run ∧ run.slot = i
  judged : (s.slot i).rejudging = true → (s.slot i).finished = true
  pending : (s.slot i).retirePending = true →
    (s.slot i).finished = true ∧ (s.slot i).claims ≠ [] ∧ (s.slot i).rejudging = false
  blank : (s.slot i).state = .free → s.slot i = Record.free (s.slot i).generation
  verdict : (s.slot i).finished = false → (s.slot i).verdict = .none
  void : (s.slot i).state = .void → (s.slot i).verdict = .incomplete

/-- What the passages of the tracker keep among themselves. -/
structure PassagesSound (t : Tracker) : Prop where
  distinct : (t.contexts.map Context.slot).Nodup
  two : t.contexts.length ≤ 2
  oneMeasuring : (t.contexts.filter fun c => decide (c.role = .measuring)).length ≤ 1
  blindApart : t.blind = true → ∀ c ∈ t.contexts, c.role = .finishing
  dark : t.entry = .dark → t.blind = false ∧ ∀ c ∈ t.contexts, c.role = .finishing

/-- What the two lists of the shell table keep for themselves. -/
structure ListsSound (s : State) : Prop where
  once : s.armQueue.Nodup
  short : s.armQueue.length ≤ Config.armingPlaces
  completedOnce : s.completion.Nodup

theorem slotLinked_of_linked {s : State} (linked : TableLinked s) (i : Fin Config.slots) : SlotLinked s i where
  armed := linked.arming.armed i
  finished := linked.completion.finished i
  generation c mem at_i := at_i ▸ linked.contexts.generation c mem
  measuring := linked.contexts.measuring i
  finishing := linked.contexts.finishing i
  held := linked.engine.held i
  judged := linked.engine.finished i
  pending := linked.pending i
  blank := linked.blank i
  verdict := (linked.verdicts i).1
  void := (linked.verdicts i).2

theorem passagesSound_of_linked {s : State} (linked : TableLinked s) : PassagesSound s.tracker where
  distinct := linked.contexts.distinct
  two := linked.contexts.two
  oneMeasuring := linked.contexts.oneMeasuring
  blindApart := linked.contexts.blindApart
  dark := linked.contexts.dark

theorem listsSound_of_linked {s : State} (linked : TableLinked s) : ListsSound s where
  once := linked.arming.once
  short := linked.arming.short
  completedOnce := linked.completion.once

/-- The links of the shell table are those at each slot, those of the lists and passages among themselves, distinct ids and true counts. -/
theorem linked_of_slots {s : State} (slots : ∀ i, SlotLinked s i) (passages : PassagesSound s.tracker)
    (lists : ListsSound s) (ids : IdsDistinct s) (refs : RefsCounted s) : TableLinked s where
  arming := ⟨lists.once, lists.short, fun i => (slots i).armed⟩
  completion := ⟨lists.completedOnce, fun i => (slots i).finished⟩
  contexts :=
    { distinct := passages.distinct
      two := passages.two
      generation := fun c mem => (slots c.slot).generation c mem rfl
      measuring := fun i => (slots i).measuring
      finishing := fun i => (slots i).finishing
      oneMeasuring := passages.oneMeasuring
      blindApart := passages.blindApart
      dark := passages.dark }
  engine := ⟨fun i => (slots i).held, fun i => (slots i).judged⟩
  pending := fun i => (slots i).pending
  blank := fun i => (slots i).blank
  ids := ids
  refs := refs
  verdicts := fun i => ⟨(slots i).verdict, (slots i).void⟩

/-! ## Changes that the links do not see -/

/-- Two records that the links of the shell table do not tell apart. -/
structure SameLinks (r r' : Record) : Prop where
  generation : r'.generation = r.generation
  state : r'.state = r.state
  rejudging : r'.rejudging = r.rejudging
  retirePending : r'.retirePending = r.retirePending
  shellId : r'.shellId = r.shellId
  grade : r'.shell.grade = r.shell.grade
  claims : r'.claims = r.claims
  verdict : r'.verdict = r.verdict
  blank : r.state = .free → r' = r

theorem SameLinks.refl (r : Record) : SameLinks r r := ⟨rfl, rfl, rfl, rfl, rfl, rfl, rfl, rfl, fun _ => rfl⟩

theorem SameLinks.trans {r r' r'' : Record} (first : SameLinks r r') (second : SameLinks r' r'') : SameLinks r r'' where
  generation := second.generation.trans first.generation
  state := second.state.trans first.state
  rejudging := second.rejudging.trans first.rejudging
  retirePending := second.retirePending.trans first.retirePending
  shellId := second.shellId.trans first.shellId
  grade := second.grade.trans first.grade
  claims := second.claims.trans first.claims
  verdict := second.verdict.trans first.verdict
  blank free := (second.blank (first.state.trans free)).trans (first.blank free)

theorem SameLinks.finished {r r' : Record} (same : SameLinks r r') : r'.finished = r.finished := by
  simp [Record.finished, same.state]

theorem SameLinks.underWay {r r' : Record} (same : SameLinks r r') : r'.underWay = r.underWay := by
  simp [Record.underWay, same.state]

/-- Nothing that the links at a slot speak of differs between two states. -/
structure SameAt (s t : State) (i : Fin Config.slots) : Prop where
  record : SameLinks (s.slot i) (t.slot i)
  queued : i ∈ t.armQueue ↔ i ∈ s.armQueue
  completed : i ∈ t.completion ↔ i ∈ s.completion
  bound : ∀ c : Context, c.slot = i → (c ∈ t.tracker.contexts ↔ c ∈ s.tracker.contexts)
  rejudged : ∀ run : RejudgeRun, run.slot = i → (t.engine = some run ↔ s.engine = some run)

theorem SameAt.trans {s t u : State} {i : Fin Config.slots} (first : SameAt s t i) (second : SameAt t u i) :
    SameAt s u i where
  record := first.record.trans second.record
  queued := second.queued.trans first.queued
  completed := second.completed.trans first.completed
  bound c at_i := (second.bound c at_i).trans (first.bound c at_i)
  rejudged run at_i := (second.rejudged run at_i).trans (first.rejudged run at_i)

/-- The contexts bound to a slot are those of a state that does not differ there. -/
theorem SameAt.some_context {s t : State} {i : Fin Config.slots} (same : SameAt s t i) (role : Role) :
    (∃ c ∈ t.tracker.contexts, c.slot = i ∧ c.role = role) ↔ ∃ c ∈ s.tracker.contexts, c.slot = i ∧ c.role = role :=
  exists_congr fun c =>
    ⟨fun ⟨mem, at_i, is⟩ => ⟨(same.bound c at_i).mp mem, at_i, is⟩,
     fun ⟨mem, at_i, is⟩ => ⟨(same.bound c at_i).mpr mem, at_i, is⟩⟩

theorem SameAt.linked {s t : State} {i : Fin Config.slots} (same : SameAt s t i) (linked : SlotLinked s i) :
    SlotLinked t i where
  armed := by rw [same.queued, same.record.state]; exact linked.armed
  finished := by rw [same.completed, same.record.finished]; exact linked.finished
  generation c mem at_i := by
    rw [same.record.generation]
    exact linked.generation c ((same.bound c at_i).mp mem) at_i
  measuring := by rw [same.some_context, same.record.state]; exact linked.measuring
  finishing := by rw [same.some_context, same.record.state]; exact linked.finishing
  held := by
    rw [same.record.rejudging, linked.held]
    exact exists_congr fun run =>
      ⟨fun ⟨is, at_i⟩ => ⟨(same.rejudged run at_i).mpr is, at_i⟩, fun ⟨is, at_i⟩ => ⟨(same.rejudged run at_i).mp is, at_i⟩⟩
  judged := by rw [same.record.rejudging, same.record.finished]; exact linked.judged
  pending := by
    rw [same.record.retirePending, same.record.finished, same.record.claims, same.record.rejudging]
    exact linked.pending
  blank free := by
    have was := same.record.state ▸ free
    rw [same.record.blank was]
    exact linked.blank was
  verdict := by rw [same.record.finished, same.record.verdict]; exact linked.verdict
  void := by rw [same.record.state, same.record.verdict]; exact linked.void

/-! ## Counting the records that name a material entry -/

/-- 1 when the record is live and names the entry, 0 otherwise. -/
def Record.names (r : Record) (g : Fin Config.materials) : Nat := if r.live = true ∧ r.shell.grade = g then 1 else 0

theorem SameLinks.names {r r' : Record} (same : SameLinks r r') (g : Fin Config.materials) : Record.names r' g = Record.names r g := by
  simp [Record.names, Record.live, same.state, same.grade]

@[simp] theorem names_free (generation : Byte) (g : Fin Config.materials) : Record.names (Record.free generation) g = 0 := by
  simp [Record.names, Record.live, Record.free]

theorem names_live {r : Record} (live : r.state ≠ .free) (g : Fin Config.materials) :
    Record.names r g = if r.shell.grade = g then 1 else 0 := by
  simp [Record.names, Record.live, live]

theorem sum_slotOrder (f : Fin Config.slots → Nat) : (slotOrder.map f).sum = ∑ i, f i := (Fin.sum_univ_def f).symm

theorem naming_eq_sum (s : State) (g : Fin Config.materials) : s.naming g = ∑ i, Record.names (s.slot i) g := by
  rw [← sum_slotOrder, State.naming]
  induction slotOrder with
  | nil => rfl
  | cons i rest ih =>
    rw [List.countP_cons, ih, List.map_cons, List.sum_cons, Nat.add_comm]
    simp [Record.names]

/-- A sum over the slots whose terms agree but at one slot moves by the difference there. -/
theorem sum_update {f f' : Fin Config.slots → Nat} {i : Fin Config.slots} (others : ∀ j, j ≠ i → f' j = f j) :
    ∑ j, f' j + f i = ∑ j, f j + f' i := by
  have rest : ∑ j ∈ Finset.univ.erase i, f' j = ∑ j ∈ Finset.univ.erase i, f j :=
    Finset.sum_congr rfl fun j mem => others j (Finset.ne_of_mem_erase mem)
  rw [← Finset.add_sum_erase _ f' (Finset.mem_univ i), ← Finset.add_sum_erase _ f (Finset.mem_univ i), rest]
  omega

/-! ## A change at one slot -/

theorem idsDistinct_update {s t : State} {i : Fin Config.slots} (ids : IdsDistinct s)
    (others : ∀ j, j ≠ i → SameLinks (s.slot j) (t.slot j))
    (fresh : (t.slot i).state ≠ .free → ∀ id, (t.slot i).shellId = some id →
      ∀ j, j ≠ i → (s.slot j).state ≠ .free → (s.slot j).shellId ≠ some id) : IdsDistinct t := by
  intro j k apart live_j live_k named same
  obtain ⟨id, is⟩ := Option.ne_none_iff_exists'.mp named
  by_cases at_j : j = i
  · subst at_j
    have other := others k (Ne.symm apart)
    exact fresh live_j id is k (Ne.symm apart) (other.state ▸ live_k) (other.shellId ▸ same ▸ is)
  · have first := others j at_j
    by_cases at_k : k = i
    · subst at_k
      exact fresh live_k id (same ▸ is) j apart (first.state ▸ live_j) (first.shellId ▸ is)
    · have second := others k at_k
      exact ids j k apart (first.state ▸ live_j) (second.state ▸ live_k) (first.shellId ▸ named)
        (by rw [← first.shellId, ← second.shellId, same])

theorem refsCounted_update {s t : State} {i : Fin Config.slots} (refs : RefsCounted s)
    (others : ∀ j, j ≠ i → SameLinks (s.slot j) (t.slot j))
    (moved : ∀ g, (t.material g).refs + Record.names (s.slot i) g = (s.material g).refs + Record.names (t.slot i) g)
    (defined : ∀ g, 0 < (t.material g).refs → (t.material g).fields.isSome = true) : RefsCounted t where
  count g := by
    have sums := sum_update (f := fun j => Record.names (s.slot j) g) (f' := fun j => Record.names (t.slot j) g)
      fun j apart => (others j apart).names g
    have was := refs.count g
    rw [naming_eq_sum] at was ⊢
    have := moved g
    omega
  defined := defined

/-- The links stand after a change at one slot when they stand there, and the lists, the passages and the counts follow. -/
theorem linked_update {s t : State} {i : Fin Config.slots} (linked : TableLinked s)
    (others : ∀ j, j ≠ i → SameAt s t j) (here : SlotLinked t i) (passages : PassagesSound t.tracker)
    (lists : ListsSound t)
    (fresh : (t.slot i).state ≠ .free → ∀ id, (t.slot i).shellId = some id →
      ∀ j, j ≠ i → (s.slot j).state ≠ .free → (s.slot j).shellId ≠ some id)
    (moved : ∀ g, (t.material g).refs + Record.names (s.slot i) g = (s.material g).refs + Record.names (t.slot i) g)
    (defined : ∀ g, 0 < (t.material g).refs → (t.material g).fields.isSome = true) : TableLinked t := by
  refine linked_of_slots (fun j => ?_) passages lists ?_ ?_
  · by_cases at_i : j = i
    · exact at_i ▸ here
    · exact (others j at_i).linked (slotLinked_of_linked linked j)
  · exact idsDistinct_update linked.ids (fun j apart => (others j apart).record) fresh
  · exact refsCounted_update linked.refs (fun j apart => (others j apart).record) moved defined

/-- An id that a linked record already carries is no other live record's. -/
theorem id_unshared {s : State} (linked : TableLinked s) {i : Fin Config.slots} (live : (s.slot i).state ≠ .free) :
    ∀ id, (s.slot i).shellId = some id → ∀ j, j ≠ i → (s.slot j).state ≠ .free → (s.slot j).shellId ≠ some id :=
  fun id is j apart live_j same =>
    linked.ids i j (Ne.symm apart) live live_j (by simp [is]) (is.trans same.symm)

/-! ## Changes that no link sees -/

/-- No link of the shell table tells the two states apart. -/
structure SameTableLinks (s t : State) : Prop where
  records : ∀ i, SameLinks (s.slot i) (t.slot i)
  armQueue : t.armQueue = s.armQueue
  completion : t.completion = s.completion
  contexts : t.tracker.contexts = s.tracker.contexts
  blind : t.tracker.blind = s.tracker.blind
  entry : t.tracker.entry = s.tracker.entry
  engine : t.engine = s.engine
  materials : ∀ g, t.material g = s.material g

theorem SameTableLinks.refl (s : State) : SameTableLinks s s :=
  ⟨fun _ => .refl _, rfl, rfl, rfl, rfl, rfl, rfl, fun _ => rfl⟩

theorem SameTableLinks.trans {s t u : State} (first : SameTableLinks s t) (second : SameTableLinks t u) :
    SameTableLinks s u where
  records i := (first.records i).trans (second.records i)
  armQueue := second.armQueue.trans first.armQueue
  completion := second.completion.trans first.completion
  contexts := second.contexts.trans first.contexts
  blind := second.blind.trans first.blind
  entry := second.entry.trans first.entry
  engine := second.engine.trans first.engine
  materials g := (second.materials g).trans (first.materials g)

theorem SameTableLinks.at {s t : State} (same : SameTableLinks s t) (i : Fin Config.slots) : SameAt s t i where
  record := same.records i
  queued := by rw [same.armQueue]
  completed := by rw [same.completion]
  bound _ _ := by rw [same.contexts]
  rejudged _ _ := by rw [same.engine]

theorem passagesSound_congr {t t' : Tracker} (sound : PassagesSound t) (contexts : t'.contexts = t.contexts)
    (blind : t'.blind = t.blind) (entry : t'.entry = t.entry) : PassagesSound t' := by
  obtain ⟨distinct, two, one, apart, dark⟩ := sound
  constructor <;> (rw [contexts]; try rw [blind]; try rw [entry]) <;> assumption

theorem SameTableLinks.linked {s t : State} (same : SameTableLinks s t) (linked : TableLinked s) : TableLinked t := by
  have lists := listsSound_of_linked linked
  refine linked_of_slots (fun i => (same.at i).linked (slotLinked_of_linked linked i))
    (passagesSound_congr (passagesSound_of_linked linked) same.contexts same.blind same.entry)
    ⟨by rw [same.armQueue]; exact lists.once, by rw [same.armQueue]; exact lists.short,
      by rw [same.completion]; exact lists.completedOnce⟩
    (idsDistinct_update (i := 0) linked.ids (fun j _ => same.records j) fun live id is => ?_)
    (refsCounted_update (i := 0) linked.refs (fun j _ => same.records j) (fun g => ?_) fun g some => ?_)
  · have first := same.records 0
    exact id_unshared linked (first.state ▸ live) id (first.shellId ▸ is)
  · rw [same.materials, (same.records 0).names]
  · rw [same.materials] at some ⊢
    exact linked.refs.defined g some

theorem SameTable.links {s t : State} (same : SameTable s t) : SameTableLinks s t where
  records i := by rw [same.slot]; exact .refl _
  armQueue := same.armQueue
  completion := same.completion
  contexts := same.contexts
  blind := same.blind
  entry := same.entry
  engine := same.engine
  materials := same.material

theorem SameTable.linked {s t : State} (same : SameTable s t) (linked : TableLinked s) : TableLinked t :=
  same.links.linked linked

/-- A change of one record that the links do not see. -/
theorem modSlot_sameLinks {s : State} {i : Fin Config.slots} {f : Record → Record}
    (same : SameLinks (s.slot i) (f (s.slot i))) : SameTableLinks s (s.modSlot i f) where
  records j := by
    rw [modSlot_slot]
    split
    · rename_i at_i
      exact at_i ▸ same
    · exact .refl _
  armQueue := rfl
  completion := rfl
  contexts := rfl
  blind := rfl
  entry := rfl
  engine := rfl
  materials _ := rfl

/-- The receipt and the answering of a request keep the links. -/
theorem linked_requestSafe : RequestSafe TableLinked where
  frame s := (sameTable_setRing s _).linked
  count s _ := (sameTable_setRing s _).linked
  shed s := (sameTable_raise s _ _).linked
  enqueue s h code a := (sameTable_enqueue s h code a).linked

end Sys2Proof.Proofs

/-! SUPPORT. What judging, closing, shots and flags change of a record, said once. -/

namespace Sys2Proof.Proofs

open Sys2Proof.Machine Sys2Proof.Laws

/-! ## Judging and closing strips -/

/-- The second record differs from the first in strips, zones, history and derived flags alone, with as many strips. -/
structure SameShell (r r' : Record) : Prop where
  same : r' = { r with strips := r'.strips, zones := r'.zones, history := r'.history, derived := r'.derived }
  strips : r'.strips.length = r.strips.length

theorem SameShell.refl (r : Record) : SameShell r r := ⟨rfl, rfl⟩

theorem SameShell.trans {r r' r'' : Record} (first : SameShell r r') (second : SameShell r' r'') : SameShell r r'' where
  same := by rw [second.same, first.same]
  strips := second.strips.trans first.strips

theorem sameShell_flag (r : Record) (k : HistoryFlag) : SameShell r (r.flag k) := ⟨rfl, rfl⟩

theorem sameShell_offer (r : Record) (c : Zone) : SameShell r (r.offer c) := by
  unfold Record.offer
  dsimp only
  split <;> exact ⟨rfl, rfl⟩

theorem sameShell_judgeStrip (r : Record) (l : LimitSet) (station : Nat) (st : Strip) :
    SameShell r (r.judgeStrip l station st) := by
  have judged : ∀ d st', SameShell r { r with strips := r.strips.set station st', derived := d } :=
    fun d st' => ⟨rfl, by simp⟩
  unfold Record.judgeStrip
  dsimp only
  split
  · exact ⟨rfl, by simp⟩
  · split
    · exact judged _ _
    · exact (judged _ _).trans (sameShell_offer _ _)

theorem sameShell_closeStrip (r : Record) (l : LimitSet) (station : Nat) : SameShell r (r.closeStrip l station) := by
  unfold Record.closeStrip
  split
  · split
    · exact sameShell_judgeStrip _ _ _ _
    · exact .refl r
  · exact .refl r

theorem sameShell_foldl {f : Record → Nat → Record} (each : ∀ r k, SameShell r (f r k)) (ks : List Nat) (r : Record) :
    SameShell r (ks.foldl f r) := by
  induction ks generalizing r with
  | nil => exact .refl r
  | cons k rest ih => exact (each r k).trans (ih _)

theorem sameShell_closeStrips (r : Record) (l : LimitSet) (p : Nat → Bool) : SameShell r (r.closeStrips l p) := by
  refine sameShell_foldl (fun r1 k => ?_) _ r
  split
  · exact sameShell_closeStrip r1 l k
  · exact .refl r1

theorem sameShell_rejudgeStrip (r : Record) (copy : LimitSet) (station : Nat) :
    SameShell r (r.rejudgeStrip copy station) := by
  unfold Record.rejudgeStrip
  split
  · exact sameShell_judgeStrip _ _ _ _
  · exact .refl r

theorem SameShell.state {r r' : Record} (same : SameShell r r') : r'.state = r.state := by rw [same.same]
theorem SameShell.generation {r r' : Record} (same : SameShell r r') : r'.generation = r.generation := by rw [same.same]
theorem SameShell.shell {r r' : Record} (same : SameShell r r') : r'.shell = r.shell := by rw [same.same]
theorem SameShell.shellId {r r' : Record} (same : SameShell r r') : r'.shellId = r.shellId := by rw [same.same]
theorem SameShell.length {r r' : Record} (same : SameShell r r') : r'.length = r.length := by rw [same.same]
theorem SameShell.claims {r r' : Record} (same : SameShell r r') : r'.claims = r.claims := by rw [same.same]
theorem SameShell.verdict {r r' : Record} (same : SameShell r r') : r'.verdict = r.verdict := by rw [same.same]
theorem SameShell.rejudging {r r' : Record} (same : SameShell r r') : r'.rejudging = r.rejudging := by rw [same.same]
theorem SameShell.retirePending {r r' : Record} (same : SameShell r r') : r'.retirePending = r.retirePending := by
  rw [same.same]
theorem SameShell.accepted {r r' : Record} (same : SameShell r r') : r'.accepted = r.accepted := by rw [same.same]
theorem SameShell.rejected {r r' : Record} (same : SameShell r r') : r'.rejected = r.rejected := by rw [same.same]
theorem SameShell.late {r r' : Record} (same : SameShell r r') : r'.late = r.late := by rw [same.same]

theorem SameShell.links {r r' : Record} (same : SameShell r r') (live : r.state ≠ .free) : SameLinks r r' where
  generation := same.generation
  state := same.state
  rejudging := same.rejudging
  retirePending := same.retirePending
  shellId := same.shellId
  grade := by rw [same.shell]
  claims := same.claims
  verdict := same.verdict
  blank free := absurd free live

/-! ## Verdicts -/

/-- A verdict changes the zone list, the verdict and TOO_SHORT alone. -/
theorem giveVerdict_eq (r : Record) (l : LimitSet) : r.giveVerdict l =
    { r with zones := (r.giveVerdict l).zones, verdict := (r.giveVerdict l).verdict, history := (r.giveVerdict l).history } := by
  unfold Record.giveVerdict
  dsimp only
  split <;> rfl

@[simp] theorem giveVerdict_state (r : Record) (l : LimitSet) : (r.giveVerdict l).state = r.state := by rw [giveVerdict_eq]
@[simp] theorem giveVerdict_generation (r : Record) (l : LimitSet) : (r.giveVerdict l).generation = r.generation := by
  rw [giveVerdict_eq]
@[simp] theorem giveVerdict_rejudging (r : Record) (l : LimitSet) : (r.giveVerdict l).rejudging = r.rejudging := by
  rw [giveVerdict_eq]
@[simp] theorem giveVerdict_retirePending (r : Record) (l : LimitSet) :
    (r.giveVerdict l).retirePending = r.retirePending := by rw [giveVerdict_eq]
@[simp] theorem giveVerdict_shellId (r : Record) (l : LimitSet) : (r.giveVerdict l).shellId = r.shellId := by
  rw [giveVerdict_eq]
@[simp] theorem giveVerdict_shell (r : Record) (l : LimitSet) : (r.giveVerdict l).shell = r.shell := by rw [giveVerdict_eq]
@[simp] theorem giveVerdict_claims (r : Record) (l : LimitSet) : (r.giveVerdict l).claims = r.claims := by
  rw [giveVerdict_eq]
@[simp] theorem giveVerdict_strips (r : Record) (l : LimitSet) : (r.giveVerdict l).strips = r.strips := by
  rw [giveVerdict_eq]
@[simp] theorem giveVerdict_accepted (r : Record) (l : LimitSet) : (r.giveVerdict l).accepted = r.accepted := by
  rw [giveVerdict_eq]
@[simp] theorem giveVerdict_rejected (r : Record) (l : LimitSet) : (r.giveVerdict l).rejected = r.rejected := by
  rw [giveVerdict_eq]
@[simp] theorem giveVerdict_late (r : Record) (l : LimitSet) : (r.giveVerdict l).late = r.late := by rw [giveVerdict_eq]

/-- The zone list that a verdict leaves is the trimmed one. -/
@[simp] theorem giveVerdict_zones (r : Record) (l : LimitSet) : (r.giveVerdict l).zones = r.trimmedZones := by
  unfold Record.giveVerdict
  dsimp only
  split <;> rfl

/-! ## Shots -/

/-- A cell's change keeps everything of the record but the one strip. -/
theorem modCell_eq (r : Record) (station : Nat) (sector : Fin Config.sectors) (f : Cell → Cell) :
    r.modCell station sector f = { r with strips := (r.modCell station sector f).strips } := by
  unfold Record.modCell
  split <;> rfl

@[simp] theorem modCell_strips_length (r : Record) (station : Nat) (sector : Fin Config.sectors) (f : Cell → Cell) :
    (r.modCell station sector f).strips.length = r.strips.length := by
  unfold Record.modCell
  split <;> simp

/-- An accepted shot changes the strips and the accepted count alone. -/
theorem acceptShot_eq (r : Record) (l : LimitSet) (station : Nat) (sector : Fin Config.sectors) (thickness : Nat) :
    r.acceptShot l station sector thickness =
      { r with strips := (r.acceptShot l station sector thickness).strips, accepted := countUp r.accepted } := by
  unfold Record.acceptShot
  rw [modCell_eq]

@[simp] theorem acceptShot_strips_length (r : Record) (l : LimitSet) (station : Nat) (sector : Fin Config.sectors)
    (thickness : Nat) : (r.acceptShot l station sector thickness).strips.length = r.strips.length :=
  modCell_strips_length r station sector _

/-- A rejected shot changes the strips and the rejected count alone. -/
theorem rejectShot_eq (r : Record) (station : Nat) (sector : Fin Config.sectors) :
    r.rejectShot station sector =
      { r with strips := (r.rejectShot station sector).strips, rejected := countUp r.rejected } := by
  unfold Record.rejectShot
  rw [modCell_eq]

@[simp] theorem rejectShot_strips_length (r : Record) (station : Nat) (sector : Fin Config.sectors) :
    (r.rejectShot station sector).strips.length = r.strips.length :=
  modCell_strips_length r station sector _

/-- Conversion changes the last temperature and CLAMPED alone. -/
theorem tempTaken_eq (r : Record) (m : MaterialFields) (rep : Report) :
    r.tempTaken m rep = { r with lastTemp := (r.tempTaken m rep).lastTemp, history := (r.tempTaken m rep).history } := by
  unfold Record.tempTaken
  dsimp only
  split <;> split <;> rfl

/-- Records that agree in what the links speak of, the first being live. -/
theorem sameLinks_live {r r' : Record} (live : r.state ≠ .free)
    (same : r' = { r with
      length := r'.length, lastTemp := r'.lastTemp, strips := r'.strips, zones := r'.zones, history := r'.history,
      derived := r'.derived, accepted := r'.accepted, rejected := r'.rejected, late := r'.late }) : SameLinks r r' where
  generation := by rw [same]
  state := by rw [same]
  rejudging := by rw [same]
  retirePending := by rw [same]
  shellId := by rw [same]
  grade := by rw [same]
  claims := by rw [same]
  verdict := by rw [same]
  blank free := absurd free live

/-! ## Closing and finishing the record in a slot -/

@[simp] theorem appendCompletion_slot (s : State) (i j : Fin Config.slots) : (s.appendCompletion i).slot j = s.slot j := rfl
@[simp] theorem appendCompletion_limit (s : State) (i : Fin Config.slots) (l : Fin Config.limitSets) :
    (s.appendCompletion i).limit l = s.limit l := rfl

@[simp] theorem closeAll_slot_same (s : State) (i : Fin Config.slots) : (s.closeAll i).slot i =
    (s.slot i).closeStrips (s.limit (s.slot i).shell.limitSet) fun _ => true :=
  modSlot_slot_same s i _
theorem closeAll_slot_other (s : State) {i j : Fin Config.slots} (apart : i ≠ j) : (s.closeAll i).slot j = s.slot j :=
  modSlot_slot_other s i j _ apart
@[simp] theorem closeAll_limit (s : State) (i : Fin Config.slots) (l : Fin Config.limitSets) :
    (s.closeAll i).limit l = s.limit l := rfl

@[simp] theorem closeBehind_slot_same (s : State) (i : Fin Config.slots) (d : Int) : (s.closeBehind i d).slot i =
    (s.slot i).closeStrips (s.limit (s.slot i).shell.limitSet) fun k =>
      decide ((((k + 1) * (s.slot i).shell.pitch + s.tracker.settings.closeDistance : Nat) : Int) < d) :=
  modSlot_slot_same s i _

@[simp] theorem voidRecord_slot_same (s : State) (i : Fin Config.slots) : (s.voidRecord i).slot i =
    { s.slot i with state := .void, verdict := .incomplete } :=
  modSlot_slot_same s i fun r => { r with state := .void, verdict := .incomplete }
theorem voidRecord_slot_other (s : State) {i j : Fin Config.slots} (apart : i ≠ j) :
    (s.voidRecord i).slot j = s.slot j :=
  modSlot_slot_other s i j (fun r => { r with state := .void, verdict := .incomplete }) apart

@[simp] theorem finishRecord_slot_same (s : State) (i : Fin Config.slots) : (s.finishRecord i).slot i =
    { (s.slot i).giveVerdict (s.limit (s.slot i).shell.limitSet) with state := .complete } :=
  modSlot_slot_same s i fun r => { r.giveVerdict (s.limit r.shell.limitSet) with state := .complete }
theorem finishRecord_slot_other (s : State) {i j : Fin Config.slots} (apart : i ≠ j) :
    (s.finishRecord i).slot j = s.slot j :=
  modSlot_slot_other s i j (fun r => { r.giveVerdict (s.limit r.shell.limitSet) with state := .complete }) apart

@[simp] theorem stallRecord_slot_same (s : State) (c : Context) : (s.stallRecord c).slot c.slot =
    { ((s.slot c.slot).flag .stalled).closeStrips (s.limit (s.slot c.slot).shell.limitSet) (fun _ => true) with
      state := .void, verdict := .incomplete } := by
  simp [State.stallRecord]
@[simp] theorem stallRecord_tracker (s : State) (c : Context) : (s.stallRecord c).tracker = s.tracker := rfl
theorem stallRecord_slot_other (s : State) (c : Context) {j : Fin Config.slots} (apart : c.slot ≠ j) :
    (s.stallRecord c).slot j = s.slot j := by
  rw [State.stallRecord, appendCompletion_slot, voidRecord_slot_other _ apart, closeAll_slot_other _ apart,
    modSlot_slot_other _ _ _ _ apart]

end Sys2Proof.Proofs

/-! SUPPORT. Freeing, eviction, and the allocation of slots and strips: how they move through an invariant, and that they keep the links of the shell table. -/

namespace Sys2Proof.Proofs

open Sys2Proof.Machine Sys2Proof.Laws

/-! ## Freeing -/

@[simp] theorem dropContext_contexts (t : Tracker) (i : Fin Config.slots) :
    (t.dropContext i).contexts = t.contexts.filter fun c => decide (c.slot ≠ i) := rfl
@[simp] theorem dropContext_blind (t : Tracker) (i : Fin Config.slots) :
    (t.dropContext i).blind = (t.blind || t.measures i) := rfl
@[simp] theorem dropContext_entry (t : Tracker) (i : Fin Config.slots) : (t.dropContext i).entry = t.entry := rfl
@[simp] theorem dropContext_slips (t : Tracker) (i : Fin Config.slots) : (t.dropContext i).slips = t.slips := rfl
@[simp] theorem dropContext_settings (t : Tracker) (i : Fin Config.slots) : (t.dropContext i).settings = t.settings := rfl

theorem measures_iff (t : Tracker) (i : Fin Config.slots) :
    t.measures i = true ↔ ∃ c ∈ t.contexts, c.slot = i ∧ c.role = .measuring := by
  simp [Tracker.measures]

/-- A freed record's material entry counts one reference less; the others stay. -/
theorem freeRecord_material (s : State) (i : Fin Config.slots) (g : Fin Config.materials) :
    (s.freeRecord i).material g =
      if (s.slot i).shell.grade = g then { s.material g with refs := (s.material g).refs - 1 } else s.material g := by
  have moved : (s.freeRecord i).material g = (s.refDown (s.slot i).shell.grade).material g := rfl
  rw [moved, State.refDown, setMaterial_material]
  split
  · rename_i is
    rw [is]
  · rfl

/-- A list of at most one element has no two different ones. -/
theorem eq_of_length_le_one {α : Type} {l : List α} (few : l.length ≤ 1) {a b : α} (mem_a : a ∈ l) (mem_b : b ∈ l) :
    a = b := by
  match l with
  | [] => exact absurd mem_a (by simp)
  | [x] => exact (List.mem_singleton.mp mem_a).trans (List.mem_singleton.mp mem_b).symm
  | _ :: _ :: _ => exact absurd few (by simp)

/-- With at most one MEASURING context, dropping it leaves none. -/
theorem finishing_of_measures {t : Tracker} (sound : PassagesSound t) {i : Fin Config.slots}
    (measures : t.measures i = true) : ∀ c ∈ t.contexts, c.slot ≠ i → c.role = .finishing := by
  intro c mem apart
  obtain ⟨d, mem_d, at_d, is_d⟩ := (measures_iff t i).mp measures
  cases is_c : c.role with
  | finishing => rfl
  | measuring =>
    have same : c = d := eq_of_length_le_one sound.oneMeasuring (by simp [mem, is_c]) (by simp [mem_d, is_d])
    exact absurd (same ▸ at_d) apart

/-- Leaving contexts out keeps the passages sound. -/
theorem passagesSound_filter {t t' : Tracker} (sound : PassagesSound t) (p : Context → Bool)
    (contexts : t'.contexts = t.contexts.filter p) (entry : t'.entry = t.entry)
    (blind : t'.blind = true → t.entry ≠ .dark ∧ ∀ c ∈ t'.contexts, c.role = .finishing) : PassagesSound t' where
  distinct := by
    rw [contexts]
    exact sound.distinct.sublist (List.filter_sublist.map _)
  two := by
    rw [contexts]
    exact (List.length_filter_le ..).trans sound.two
  oneMeasuring := by
    rw [contexts]
    exact (List.Sublist.length_le (List.filter_sublist.filter _)).trans sound.oneMeasuring
  blindApart is := (blind is).2
  dark is := by
    have was := entry ▸ is
    refine ⟨?_, fun c mem => (sound.dark was).2 c (List.mem_of_mem_filter (contexts ▸ mem))⟩
    cases now : t'.blind with
    | false => rfl
    | true => exact absurd was (blind now).1

theorem not_dark_of_blind {t : Tracker} (sound : PassagesSound t) (blind : t.blind = true) : t.entry ≠ .dark :=
  fun dark => by simp [(sound.dark dark).1] at blind

theorem dropContext_sound {t : Tracker} (sound : PassagesSound t) (i : Fin Config.slots) :
    PassagesSound (t.dropContext i) := by
  refine passagesSound_filter sound _ (dropContext_contexts t i) rfl fun is => ?_
  have all : ∀ c ∈ (t.dropContext i).contexts, c ∈ t.contexts ∧ c.slot ≠ i := by simp
  cases blind : t.blind with
  | true => exact ⟨not_dark_of_blind sound blind, fun c mem => sound.blindApart blind c (all c mem).1⟩
  | false =>
    have measures : t.measures i = true := by simpa [blind] using is
    obtain ⟨d, mem, -, role⟩ := (measures_iff t i).mp measures
    exact ⟨fun dark => by simp [(sound.dark dark).2 d mem] at role,
      fun c mem => finishing_of_measures sound measures c (all c mem).1 (all c mem).2⟩

/-- A live record's entry has a reference. -/
theorem refs_pos {s : State} (linked : TableLinked s) {i : Fin Config.slots} (live : (s.slot i).state ≠ .free) :
    0 < (s.material (s.slot i).shell.grade).refs := by
  rw [linked.refs.count, State.naming, List.countP_pos_iff]
  exact ⟨i, List.mem_finRange i, by simp [Record.live, live]⟩

/-- A slot with a FREE record that no list, context or run names is linked. -/
theorem slotLinked_free {s : State} {i : Fin Config.slots} {generation : Byte}
    (free : s.slot i = Record.free generation) (queued : i ∉ s.armQueue) (completed : i ∉ s.completion)
    (bound : ∀ c ∈ s.tracker.contexts, c.slot ≠ i) (rejudged : ∀ run, s.engine = some run → run.slot ≠ i) :
    SlotLinked s i := by
  have none : ∀ role, ¬∃ c ∈ s.tracker.contexts, c.slot = i ∧ c.role = role :=
    fun _ ⟨c, mem, at_i, _⟩ => bound c mem at_i
  have idle : ¬∃ run, s.engine = some run ∧ run.slot = i := fun ⟨run, is, at_i⟩ => rejudged run is at_i
  constructor <;> simp [free, Record.free, Record.finished, queued, completed, none, idle]
  exact fun c mem at_i => absurd at_i (bound c mem)

/-- Freeing a record leaves every other slot's links alone. -/
theorem freeRecord_sameAt (s : State) {i j : Fin Config.slots} (apart : j ≠ i) : SameAt s (s.freeRecord i) j where
  record := by
    rw [freeRecord_slot_other _ _ _ (Ne.symm apart)]
    exact .refl _
  queued := by simp [apart]
  completed := by simp [apart]
  bound c at_j := by simp [at_j, apart]
  rejudged run at_j := by
    rw [freeRecord_engine, Option.filter_eq_some_iff]
    simp [at_j, apart]

/-- Freeing a live record keeps the links. -/
theorem freeRecord_linked {s : State} (linked : TableLinked s) {i : Fin Config.slots} (live : (s.slot i).state ≠ .free) :
    TableLinked (s.freeRecord i) := by
  have lists := listsSound_of_linked linked
  refine linked_update linked (fun j apart => freeRecord_sameAt s apart) ?_
    (dropContext_sound (passagesSound_of_linked linked) i) ?_ ?_ (fun g => ?_) (fun g => ?_)
  · refine slotLinked_free (freeRecord_slot_same s i) ?_ ?_ ?_ ?_ <;> simp
  · exact ⟨lists.once.filter _, (List.length_filter_le ..).trans lists.short, lists.completedOnce.filter _⟩
  · simp [Record.free]
  · have some := refs_pos linked live
    rw [freeRecord_material, freeRecord_slot_same, names_free, names_live live]
    split
    · rename_i is
      subst is
      simp only
      omega
    · rfl
  · rw [freeRecord_material]
    split
    · exact fun some => linked.refs.defined g (by simp only at some; omega)
    · exact linked.refs.defined g

/-! ## Eviction -/

theorem completed_live {s : State} (linked : TableLinked s) {i : Fin Config.slots} (completed : i ∈ s.completion) :
    (s.slot i).state ≠ .free := by
  have finished := (linked.completion.finished i).mp completed
  simp only [Record.finished, decide_eq_true_eq] at finished
  rcases finished with is | is <;> simp [is]

/-- No context is bound to a record of the completion order list. -/
theorem completed_unbound {s : State} (linked : TableLinked s) {i : Fin Config.slots} (completed : i ∈ s.completion) :
    ∀ c ∈ s.tracker.contexts, c.slot ≠ i := by
  intro c mem at_i
  have finished := (linked.completion.finished i).mp completed
  simp only [Record.finished, decide_eq_true_eq] at finished
  cases role : c.role with
  | measuring =>
    have state := (linked.contexts.measuring i).mp ⟨c, mem, at_i, role⟩
    simp [state] at finished
  | finishing =>
    have state := (linked.contexts.finishing i).mp ⟨c, mem, at_i, role⟩
    simp [state] at finished

theorem evict_linked {s t : State} (linked : TableLinked s) (evicted : s.evict = some t) : TableLinked t := by
  obtain ⟨i, completed, -, -, rfl⟩ := evict_some evicted
  exact (sameTable_raise _ _ _).linked (freeRecord_linked linked (completed_live linked completed))

/-- What an eviction leaves as it was of the table and the passages: every record that is not on the completion order list, the arming queue, the contexts, and which entries are DEFINED. -/
structure EvictsApart (s t : State) : Prop where
  slot : ∀ i, i ∉ s.completion → t.slot i = s.slot i
  live : ∀ i, (t.slot i).state ≠ .free → t.slot i = s.slot i
  completion : ∀ i, i ∈ t.completion → i ∈ s.completion
  contexts : t.tracker.contexts = s.tracker.contexts
  blind : t.tracker.blind = s.tracker.blind
  entry : t.tracker.entry = s.tracker.entry
  armQueue : t.armQueue = s.armQueue
  template : t.template = s.template
  limits : t.limits = s.limits
  settings : t.tracker.settings = s.tracker.settings
  defined : ∀ g, (t.material g).fields = (s.material g).fields

theorem EvictsApart.refl (s : State) : EvictsApart s s :=
  ⟨fun _ _ => rfl, fun _ _ => rfl, fun _ mem => mem, rfl, rfl, rfl, rfl, rfl, rfl, rfl, fun _ => rfl⟩

theorem EvictsApart.trans {s t u : State} (first : EvictsApart s t) (second : EvictsApart t u) : EvictsApart s u where
  slot i apart := (second.slot i fun mem => apart (first.completion i mem)).trans (first.slot i apart)
  live i live := by
    have same := second.live i live
    exact same.trans (first.live i (same ▸ live))
  completion i mem := first.completion i (second.completion i mem)
  contexts := second.contexts.trans first.contexts
  blind := second.blind.trans first.blind
  entry := second.entry.trans first.entry
  armQueue := second.armQueue.trans first.armQueue
  template := second.template.trans first.template
  limits := second.limits.trans first.limits
  settings := second.settings.trans first.settings
  defined g := (second.defined g).trans (first.defined g)

theorem evict_apart {s t : State} (linked : TableLinked s) (evicted : s.evict = some t) : EvictsApart s t := by
  obtain ⟨i, completed, -, -, rfl⟩ := evict_some evicted
  have unbound := completed_unbound linked completed
  have idle : s.tracker.measures i = false := by
    rw [Bool.eq_false_iff, ne_eq, measures_iff]
    exact fun ⟨c, mem, at_i, _⟩ => unbound c mem at_i
  have finished := (linked.completion.finished i).mp completed
  have unqueued : i ∉ s.armQueue := fun queued => by
    have armed := (linked.arming.armed i).mp queued
    simp [Record.finished, armed] at finished
  constructor
  · intro j apart
    exact freeRecord_slot_other _ _ _ (fun same => apart (same ▸ completed))
  · intro j live
    by_cases at_i : i = j
    · subst at_i
      exact absurd live (by simp [Record.free])
    · exact freeRecord_slot_other _ _ _ at_i
  · simp +contextual
  · simpa using unbound
  · simp [idle]
  · rfl
  · refine List.filter_eq_self.mpr fun j mem => decide_eq_true fun at_i => unqueued (at_i ▸ mem)
  · rfl
  · rfl
  · rfl
  · intro g
    rw [raise_material, freeRecord_material]
    split <;> rfl

/-! ## Invariants through the allocations -/

/-- What every eviction keeps, the seeking of a free strip keeps. -/
theorem seekStrip_keeps {P : State → Prop} (evict : ∀ u v, P u → u.evict = some v → P v) {s : State} (holds : P s) :
    P s.seekStrip := by
  have some_evictions : ∀ n u, P u → P (State.evictForStrip n u) := by
    intro n
    induction n with
    | zero => exact fun u kept => kept
    | succ n ih =>
      intro u kept
      unfold State.evictForStrip
      split
      · split
        · rename_i v evicted
          exact ih v (evict u v kept evicted)
        · exact kept
      · exact kept
  unfold State.seekStrip
  split
  · exact some_evictions _ s holds
  · exact holds

/-- What every eviction and every taking of a strip keeps, an allocation of strips keeps. -/
theorem allocStrips_keeps {P : State → Prop} {i : Fin Config.slots} (evict : ∀ u v, P u → u.evict = some v → P v)
    (take : ∀ u, P u → u.freeStrips ≠ 0 → P (u.takeStrip i)) (n : Nat) {s : State} (holds : P s) :
    P (State.allocStrips n i s).1 := by
  induction n generalizing s with
  | zero => exact holds
  | succ n ih =>
    have sought := seekStrip_keeps evict holds
    rw [allocStrips_succ]
    split
    · exact sought
    · rename_i some
      exact ih (take _ sought some)

/-- What every eviction keeps, the allocation of a slot keeps. -/
theorem allocSlot_keeps {P : State → Prop} (evict : ∀ u v, P u → u.evict = some v → P v) {s t : State}
    {i : Fin Config.slots} (holds : P s) (taken : s.allocSlot = some (i, t)) : P t := by
  unfold State.allocSlot at taken
  split at taken
  · obtain ⟨rfl, rfl⟩ := Prod.mk.inj (Option.some.inj taken)
    exact holds
  · split at taken
    · split at taken
      · rename_i v evicted
        obtain ⟨j, -, both⟩ := Option.map_eq_some_iff.mp taken
        obtain ⟨rfl, rfl⟩ := Prod.mk.inj both
        exact evict s v holds evicted
      · exact absurd taken (by simp)
    · exact absurd taken (by simp)

/-- The allocation of a slot keeps the links, and touches nothing but finished records. -/
theorem allocSlot_linked {s t : State} {i : Fin Config.slots} (linked : TableLinked s)
    (taken : s.allocSlot = some (i, t)) : TableLinked t ∧ EvictsApart s t :=
  allocSlot_keeps (P := fun u => TableLinked u ∧ EvictsApart s u)
    (fun _ _ ⟨kept, apart⟩ evicted => ⟨evict_linked kept evicted, apart.trans (evict_apart kept evicted)⟩)
    ⟨linked, .refl s⟩ taken

/-! ## Strips -/

/-- A strip taken for a live record is not seen by the links. -/
theorem takeStrip_sameLinks {s : State} {i : Fin Config.slots} (live : (s.slot i).state ≠ .free) :
    SameTableLinks s (s.takeStrip i) := by
  refine SameTableLinks.trans (t := { s with freeStrips := s.freeStrips - 1 })
    ⟨fun _ => .refl _, rfl, rfl, rfl, rfl, rfl, rfl, fun _ => rfl⟩ (modSlot_sameLinks (sameLinks_live live rfl))

/-- What an allocation of strips for a live record that is not finished leaves: the links, that record but for its strips, and everything that evictions do not touch. -/
structure FillKeeps (s t : State) (i : Fin Config.slots) : Prop where
  linked : TableLinked t
  record : SameLinks (s.slot i) (t.slot i)
  strips : t.slot i = { s.slot i with strips := (t.slot i).strips }
  others : ∀ j, j ≠ i → j ∉ s.completion → t.slot j = s.slot j
  completion : ∀ j, j ∈ t.completion → j ∈ s.completion
  contexts : t.tracker.contexts = s.tracker.contexts
  blind : t.tracker.blind = s.tracker.blind
  entry : t.tracker.entry = s.tracker.entry

theorem FillKeeps.refl {s : State} (linked : TableLinked s) (i : Fin Config.slots) : FillKeeps s s i :=
  ⟨linked, .refl _, rfl, fun _ _ _ => rfl, fun _ mem => mem, rfl, rfl, rfl⟩

theorem FillKeeps.evict {s u v : State} {i : Fin Config.slots} (unfinished : i ∉ s.completion) (kept : FillKeeps s u i)
    (evicted : u.evict = some v) : FillKeeps s v i := by
  have apart := evict_apart kept.linked evicted
  have here := apart.slot i fun mem => unfinished (kept.completion i mem)
  exact
    { linked := evict_linked kept.linked evicted
      record := by rw [here]; exact kept.record
      strips := by rw [here]; exact kept.strips
      others := fun j other out => (apart.slot j fun mem => out (kept.completion j mem)).trans (kept.others j other out)
      completion := fun j mem => kept.completion j (apart.completion j mem)
      contexts := apart.contexts.trans kept.contexts
      blind := apart.blind.trans kept.blind
      entry := apart.entry.trans kept.entry }

theorem FillKeeps.take {s u : State} {i : Fin Config.slots} (live : (s.slot i).state ≠ .free) (kept : FillKeeps s u i) :
    FillKeeps s (u.takeStrip i) i := by
  have same := takeStrip_sameLinks (s := u) (i := i) (kept.record.state ▸ live)
  exact
    { linked := same.linked kept.linked
      record := kept.record.trans (same.records i)
      strips := by rw [takeStrip_slot_same, kept.strips]
      others := fun j other out =>
        (setSlot_slot_other _ _ _ _ (Ne.symm other)).trans (kept.others j other out)
      completion := kept.completion
      contexts := kept.contexts
      blind := kept.blind
      entry := kept.entry }

/-- What evictions keep, and the taking of strips for one live record, an allocation of strips for a live unfinished record of a linked table keeps. -/
theorem allocStrips_linked_keeps {P : State → Prop} {s : State} (linked : TableLinked s) {i : Fin Config.slots}
    (live : (s.slot i).state ≠ .free) (unfinished : i ∉ s.completion) (evict : ∀ u v, P u → u.evict = some v → P v)
    (take : ∀ u, (u.slot i).state ≠ .free → P u → u.freeStrips ≠ 0 → P (u.takeStrip i)) (holds : P s) (n : Nat) :
    FillKeeps s (State.allocStrips n i s).1 i ∧ P (State.allocStrips n i s).1 :=
  allocStrips_keeps (P := fun u => FillKeeps s u i ∧ P u)
    (fun u v ⟨kept, also⟩ evicted => ⟨kept.evict unfinished evicted, evict u v also evicted⟩)
    (fun u ⟨kept, also⟩ some => ⟨kept.take live, take u (kept.record.state ▸ live) also some⟩) n ⟨.refl linked i, holds⟩

theorem allocStrips_fillKeeps {s : State} (linked : TableLinked s) {i : Fin Config.slots}
    (live : (s.slot i).state ≠ .free) (unfinished : i ∉ s.completion) (n : Nat) :
    FillKeeps s (State.allocStrips n i s).1 i :=
  (allocStrips_linked_keeps (P := fun _ => True) linked live unfinished (fun _ _ _ _ => trivial)
    (fun _ _ _ _ => trivial) trivial n).1

end Sys2Proof.Proofs

/-! SUPPORT. ARM, AMEND, the material commands, holding, retiring, and the rejudge engine keep the links of the shell table. -/

namespace Sys2Proof.Proofs

open Sys2Proof.Machine Sys2Proof.Laws

/-! ## Material references -/

theorem refUp_material (s : State) (g q : Fin Config.materials) : (s.refUp g).material q =
    if g = q then { s.material q with refs := (s.material q).refs + 1 } else s.material q := by
  rw [State.refUp, setMaterial_material]
  split
  · rename_i is
    rw [is]
  · rfl

theorem refDown_material (s : State) (g q : Fin Config.materials) : (s.refDown g).material q =
    if g = q then { s.material q with refs := (s.material q).refs - 1 } else s.material q := by
  rw [State.refDown, setMaterial_material]
  split
  · rename_i is
    rw [is]
  · rfl

/-- A reference taken in a slot that held no record. -/
theorem refUp_counts {s t : State} {r r' : Record} {g : Fin Config.materials}
    (materials : ∀ q, t.material q = (s.refUp g).material q) (free : r.state = .free) (live : r'.state ≠ .free)
    (grade : r'.shell.grade = g) (q : Fin Config.materials) :
    (t.material q).refs + Record.names r q = (s.material q).refs + Record.names r' q := by
  rw [materials, refUp_material, names_live live, grade]
  have none : Record.names r q = 0 := by simp [Record.names, Record.live, free]
  rw [none]
  split <;> rfl

theorem refUp_defined {s t : State} {g : Fin Config.materials} (linked : TableLinked s)
    (materials : ∀ q, t.material q = (s.refUp g).material q) (defined : s.defined g = true) (q : Fin Config.materials)
    (some_ref : 0 < (t.material q).refs) : (t.material q).fields.isSome = true := by
  rw [materials, refUp_material] at some_ref ⊢
  split at some_ref
  · rename_i is
    rw [if_pos is]
    exact is ▸ defined
  · rename_i isnt
    rw [if_neg isnt]
    exact linked.refs.defined q some_ref

/-! ## Records at a slot -/

/-- A linked FREE slot is named by no list, no context and no run. -/
theorem free_unnamed {s : State} {i : Fin Config.slots} (linked : SlotLinked s i) (free : (s.slot i).state = .free) :
    i ∉ s.armQueue ∧ i ∉ s.completion ∧ (∀ c ∈ s.tracker.contexts, c.slot ≠ i) ∧
      ∀ run, s.engine = some run → run.slot ≠ i := by
  refine ⟨?_, ?_, fun c mem at_i => ?_, fun run is at_i => ?_⟩
  · rw [linked.armed, free]
    simp
  · rw [linked.finished]
    simp [Record.finished, free]
  · cases role : c.role with
    | measuring =>
      have state := linked.measuring.mp ⟨c, mem, at_i, role⟩
      simp [free] at state
    | finishing =>
      have state := linked.finishing.mp ⟨c, mem, at_i, role⟩
      simp [free] at state
  · have marked := linked.held.mpr ⟨run, is, at_i⟩
    rw [linked.blank free] at marked
    simp [Record.free] at marked

/-- A linked slot whose record is not finished is not RETIRE_PENDING, not REJUDGING and without a verdict. -/
theorem unfinished_bare {s : State} {i : Fin Config.slots} (linked : SlotLinked s i)
    (unfinished : (s.slot i).finished = false) :
    (s.slot i).retirePending = false ∧ (s.slot i).rejudging = false ∧ (s.slot i).verdict = .none := by
  refine ⟨?_, ?_, linked.verdict unfinished⟩
  · rw [Bool.eq_false_iff]
    exact fun is => absurd (linked.pending is).1 (by simp [unfinished])
  · rw [Bool.eq_false_iff]
    exact fun is => absurd (linked.judged is) (by simp [unfinished])

/-- A live record whose standing (state, generation, marks, claims, verdict) stays as it was keeps the links at its slot. -/
theorem SlotLinked.restyled {s t : State} {i : Fin Config.slots} (linked : SlotLinked s i)
    (live : (s.slot i).state ≠ .free) (armQueue : t.armQueue = s.armQueue) (completion : t.completion = s.completion)
    (contexts : t.tracker.contexts = s.tracker.contexts) (engine : t.engine = s.engine)
    (record : t.slot i = { s.slot i with
      shellId := (t.slot i).shellId, history := (t.slot i).history, shell := (t.slot i).shell }) : SlotLinked t i := by
  have state : (t.slot i).state = (s.slot i).state := by rw [record]
  have generation : (t.slot i).generation = (s.slot i).generation := by rw [record]
  have rejudging : (t.slot i).rejudging = (s.slot i).rejudging := by rw [record]
  have retirePending : (t.slot i).retirePending = (s.slot i).retirePending := by rw [record]
  have claims : (t.slot i).claims = (s.slot i).claims := by rw [record]
  have verdict : (t.slot i).verdict = (s.slot i).verdict := by rw [record]
  have finished : (t.slot i).finished = (s.slot i).finished := by simp [Record.finished, state]
  constructor
  · rw [armQueue, state]; exact linked.armed
  · rw [completion, finished]; exact linked.finished
  · rw [contexts, generation]; exact linked.generation
  · rw [contexts, state]; exact linked.measuring
  · rw [contexts, state]; exact linked.finishing
  · rw [rejudging, engine]; exact linked.held
  · rw [rejudging, finished]; exact linked.judged
  · rw [retirePending, finished, claims, rejudging]; exact linked.pending
  · exact fun free => absurd (state ▸ free) live
  · rw [finished, verdict]; exact linked.verdict
  · rw [state, verdict]; exact linked.void

/-- Changing one record leaves the links at every other slot alone. -/
theorem modSlot_sameAt (s : State) {i j : Fin Config.slots} (f : Record → Record) (apart : j ≠ i) :
    SameAt s (s.modSlot i f) j where
  record := by
    rw [modSlot_slot_other _ _ _ _ (Ne.symm apart)]
    exact .refl _
  queued := .rfl
  completed := .rfl
  bound _ _ := .rfl
  rejudged _ _ := .rfl

/-- The lists, contexts and run of a state decide, with its records, the links at a slot. -/
theorem SameAt.of_fields {s t : State} {j : Fin Config.slots} (slot : t.slot j = s.slot j)
    (queued : j ∈ t.armQueue ↔ j ∈ s.armQueue) (completed : j ∈ t.completion ↔ j ∈ s.completion)
    (contexts : t.tracker.contexts = s.tracker.contexts) (engine : t.engine = s.engine) : SameAt s t j where
  record := by rw [slot]; exact .refl _
  queued := queued
  completed := completed
  bound _ _ := by rw [contexts]
  rejudged _ _ := by rw [engine]

/-! ## ARM -/

@[simp] theorem placeArmed_slot_same (s : State) (i : Fin Config.slots) (id : Word) (shell : ShellSettings) :
    (s.placeArmed i id shell).slot i = .made (s.slot i).generation .armed shell (some id) 0 := by
  simp only [State.placeArmed, State.refUp, setMaterial_slot, modSlot_slot_same]
  rfl

theorem placeArmed_slot_other (s : State) {i j : Fin Config.slots} (id : Word) (shell : ShellSettings) (apart : i ≠ j) :
    (s.placeArmed i id shell).slot j = s.slot j := by
  simp only [State.placeArmed, State.refUp, setMaterial_slot, modSlot_slot_other _ _ _ _ apart]
  rfl

theorem placeArmed_material (s : State) (i : Fin Config.slots) (id : Word) (shell : ShellSettings)
    (g : Fin Config.materials) : (s.placeArmed i id shell).material g = (s.refUp shell.grade).material g := by
  simp only [State.placeArmed, refUp_material]
  rfl

/-- A new record with a fresh id in a FREE slot, with room in the arming queue and its entry DEFINED, keeps the links. -/
theorem placeArmed_linked {s : State} (linked : TableLinked s) {i : Fin Config.slots} {id : Word}
    {shell : ShellSettings} (free : (s.slot i).state = .free) (short : s.armQueue.length < Config.armingPlaces)
    (fresh : ∀ j, (s.slot j).state ≠ .free → (s.slot j).shellId ≠ some id) (defined : s.defined shell.grade = true) :
    TableLinked (s.placeArmed i id shell) := by
  obtain ⟨unqueued, uncompleted, unbound, unheld⟩ := free_unnamed (slotLinked_of_linked linked i) free
  have lists := listsSound_of_linked linked
  have queue : (s.placeArmed i id shell).armQueue = s.armQueue ++ [i] := rfl
  refine linked_update (i := i) linked (fun j apart => ?_) ?_
    (passagesSound_congr (passagesSound_of_linked linked) rfl rfl rfl) ?_ (fun _ id' is j _ live => ?_)
    (refUp_counts (placeArmed_material s i id shell) free ?_ ?_)
    (refUp_defined linked (placeArmed_material s i id shell) defined)
  · refine .of_fields (placeArmed_slot_other s id shell (Ne.symm apart)) ?_ .rfl rfl rfl
    rw [queue]
    simp [apart]
  · have none : ∀ role, ¬∃ c ∈ s.tracker.contexts, c.slot = i ∧ c.role = role :=
      fun _ ⟨c, mem, at_i, _⟩ => unbound c mem at_i
    have idle : ¬∃ run, s.engine = some run ∧ run.slot = i := fun ⟨run, is, at_i⟩ => unheld run is at_i
    have contexts : (s.placeArmed i id shell).tracker.contexts = s.tracker.contexts := rfl
    have completion : (s.placeArmed i id shell).completion = s.completion := rfl
    have engine : (s.placeArmed i id shell).engine = s.engine := rfl
    constructor <;>
      simp [queue, contexts, completion, engine, Record.made, Record.free, Record.finished, uncompleted, none, idle]
    exact fun c mem at_i => absurd at_i (unbound c mem)
  · refine ⟨?_, ?_, lists.completedOnce⟩
    · rw [queue]
      exact List.nodup_append.mpr ⟨lists.once, by simp, by simpa using fun j mem (at_i : j = i) => unqueued (at_i ▸ mem)⟩
    · rw [queue, List.length_append]
      exact short
  · have same : id = id' := by simpa [Record.made] using is
    exact same ▸ fresh j live
  · rw [placeArmed_slot_same]
    simp [Record.made]
  · rw [placeArmed_slot_same]
    rfl

/-- No live record but the excepted one holds an id that is not held. -/
theorem idHeld_false {s : State} {id : Word} {besides : Option (Fin Config.slots)} (free : s.idHeld id besides = false)
    {j : Fin Config.slots} (apart : some j ≠ besides) (live : (s.slot j).state ≠ .free) : (s.slot j).shellId ≠ some id := by
  have none := List.any_eq_false.mp free j (List.mem_finRange j)
  simpa [apart, Record.live, live] using none

theorem arm_linked (id : Word) (f : ShellFields) (s : State) (linked : TableLinked s) : TableLinked (arm id f s).1 := by
  unfold arm
  split
  · exact linked
  · dsimp only
    split
    · exact linked
    · rename_i defined
      split
      · exact linked
      · rename_i unheld
        split
        · exact linked
        · rename_i short
          split
          · exact linked
          · rename_i i t taken
            obtain ⟨kept, apart⟩ := allocSlot_linked linked taken
            refine placeArmed_linked kept (allocSlot_free taken) ?_ (fun j live => ?_) ?_
            · rw [apart.armQueue]
              exact Nat.lt_of_not_le short
            · have was := apart.live j live
              rw [was] at live ⊢
              exact idHeld_false (by simpa using unheld) (by simp) live
            · rw [State.defined, apart.defined]
              have was : s.defined (ShellFields.settings f).grade = true := by simpa using defined
              exact was

/-! ## AMEND -/

/-- What AMEND changes of a record: id, history and settings. -/
theorem amended_eq (r : Record) (f : AmendFields) : r.amended f =
    { r with shellId := (r.amended f).shellId, history := (r.amended f).history, shell := AmendFields.settings f r.shell } := by
  simp only [Record.amended, Record.clearHistory, Record.named]
  split <;> split <;> (try split) <;> rfl

/-- A record takes the carried id, or keeps its own. -/
theorem amended_shellId (r : Record) (f : AmendFields) : (r.amended f).shellId = f.shellId.or r.shellId := by
  have cleared : ∀ (r : Record) mask, (r.clearHistory mask).shellId = r.shellId := by
    intro r mask
    cases mask <;> rfl
  rw [Record.amended]
  dsimp only
  rw [cleared]
  unfold Record.named
  split
  · rename_i none
    simp [none]
  · rename_i v is
    simp only [is, Option.some_or]
    split
    · assumption
    · rfl

/-- After a move of a reference the old entry counts one less and the new one more; with one and the same entry nothing moves. -/
theorem moveRef_material (s : State) (old new g : Fin Config.materials) : (s.moveRef old new).material g =
    if old = new then s.material g
    else if g = old then { s.material g with refs := (s.material g).refs - 1 }
    else if g = new then { s.material g with refs := (s.material g).refs + 1 }
    else s.material g := by
  unfold State.moveRef
  by_cases same : old = new
  · simp [same]
  · by_cases is_old : g = old
    · subst is_old
      simp [same, Ne.symm same, refUp_material, refDown_material]
    · by_cases is_new : g = new
      · subst is_new
        simp [same, Ne.symm same, refUp_material, refDown_material]
      · simp [same, is_old, is_new, Ne.symm is_old, Ne.symm is_new, refUp_material, refDown_material]

/-- The counts after a move of a reference from an entry that has one. -/
theorem moveRef_counts {s : State} {old : Fin Config.materials} (some_ref : 0 < (s.material old).refs)
    (new g : Fin Config.materials) : ((s.moveRef old new).material g).refs + (if old = g then 1 else 0) =
      (s.material g).refs + (if new = g then 1 else 0) := by
  rw [moveRef_material]
  by_cases same : old = new
  · simp [same]
  · by_cases is_old : g = old
    · subst is_old
      simp only [same, Ne.symm same, if_true, if_false]
      omega
    · by_cases is_new : g = new
      · subst is_new
        simp [same, is_old]
      · simp [same, is_old, is_new, Ne.symm is_old, Ne.symm is_new]

/-- A move of a reference to a DEFINED entry keeps every entry with a reference DEFINED. -/
theorem moveRef_defined {s : State} {old new : Fin Config.materials}
    (before : ∀ g, 0 < (s.material g).refs → (s.material g).fields.isSome = true)
    (defined : old = new ∨ s.defined new = true) (g : Fin Config.materials)
    (some_ref : 0 < ((s.moveRef old new).material g).refs) :
    ((s.moveRef old new).material g).fields.isSome = true := by
  rw [moveRef_material] at some_ref ⊢
  by_cases same : old = new
  · rw [if_pos same] at some_ref ⊢
    exact before g some_ref
  · rw [if_neg same] at some_ref ⊢
    by_cases is_old : g = old
    · rw [if_pos is_old] at some_ref ⊢
      exact before g (by simp only at some_ref; omega)
    · rw [if_neg is_old] at some_ref ⊢
      by_cases is_new : g = new
      · rw [if_pos is_new]
        exact is_new ▸ defined.resolve_left same
      · rw [if_neg is_new] at some_ref ⊢
        exact before g some_ref

theorem moveRef_slot (s : State) (old new : Fin Config.materials) (i : Fin Config.slots) :
    (s.moveRef old new).slot i = s.slot i := by
  unfold State.moveRef
  split <;> rfl

/-- A move of a reference changes the material table alone. -/
theorem moveRef_eq (s : State) (old new : Fin Config.materials) :
    s.moveRef old new = { s with materials := (s.moveRef old new).materials } := by
  unfold State.moveRef
  split <;> rfl

@[simp] theorem moveRef_armQueue (s : State) (old new : Fin Config.materials) :
    (s.moveRef old new).armQueue = s.armQueue := by rw [moveRef_eq]
@[simp] theorem moveRef_completion (s : State) (old new : Fin Config.materials) :
    (s.moveRef old new).completion = s.completion := by rw [moveRef_eq]
@[simp] theorem moveRef_tracker (s : State) (old new : Fin Config.materials) :
    (s.moveRef old new).tracker = s.tracker := by rw [moveRef_eq]
@[simp] theorem moveRef_engine (s : State) (old new : Fin Config.materials) :
    (s.moveRef old new).engine = s.engine := by rw [moveRef_eq]

/-- An entry number names the entry of that number. -/
theorem entryOf_some {b : Byte} {g : Fin Config.materials} : entryOf b = some g ↔ b.toNat = g.val := by
  unfold entryOf
  split
  · simp [Fin.ext_iff]
  · rename_i beyond
    have := g.isLt
    simp
    omega

/-- With no fault of an AMEND, no other live record holds the id it carries, and the grade entry it carries is DEFINED. -/
theorem amendFault_none {s : State} {i : Fin Config.slots} {f : AmendFields} (passes : s.amendFault i f = none) :
    (∀ v, f.shellId = some v → s.idHeld v (some i) = false) ∧
      ∀ v, f.grade = some v → ∃ g : Fin Config.materials, v.toNat = g.val ∧ s.defined g = true := by
  unfold State.amendFault at passes
  rw [List.findSome?_eq_none_iff] at passes
  constructor
  · intro v is
    have check := passes _ (List.mem_cons_self)
    simpa [is, ifSelected] using check
  · intro v is
    have check := passes (ifSelected 4 f.grade fun v => armedOnly (s.slot i).state (s.gradeCheck v)) (by simp)
    simp only [is, ifSelected, id_eq, Option.map_eq_none_iff, armedOnly, State.gradeCheck] at check
    split at check
    · split at check
      · simp at check
      · rename_i g named
        exact ⟨g, entryOf_some.mp named, by simpa using check⟩
    · simp at check

/-- The grade entry after an AMEND without fault is the one held, or DEFINED. -/
theorem newGrade_defined {s : State} {i : Fin Config.slots} {f : AmendFields} (passes : s.amendFault i f = none) :
    (s.slot i).shell.grade = AmendFields.newGrade f (s.slot i).shell.grade ∨
      s.defined (AmendFields.newGrade f (s.slot i).shell.grade) = true := by
  unfold AmendFields.newGrade
  split
  · exact .inl rfl
  · rename_i v carried
    obtain ⟨e, is_e, defined⟩ := (amendFault_none passes).2 v carried
    have same : Fin.ofNat _ v.toNat = e := by simp [is_e]
    exact .inr (same ▸ defined)

theorem amend_linked (f : AmendFields) (i : Fin Config.slots) (s : State) (live : (s.slot i).state ≠ .free)
    (linked : TableLinked s) : TableLinked (amend f i s).1 := by
  unfold amend
  split
  · exact linked
  · split
    · exact linked
    · split
      · exact linked
      · rename_i passes
        have record : ((s.moveRef (s.slot i).shell.grade (AmendFields.newGrade f (s.slot i).shell.grade)).modSlot i
            fun r => r.amended f).slot i = (s.slot i).amended f := by rw [modSlot_slot_same, moveRef_slot]
        have state : ((s.slot i).amended f).state = (s.slot i).state := by rw [amended_eq]
        have grade : ((s.slot i).amended f).shell.grade = AmendFields.newGrade f (s.slot i).shell.grade := by
          rw [amended_eq]; rfl
        refine linked_update (i := i) linked (fun j apart => ?_) ?_
          (passagesSound_congr (passagesSound_of_linked linked) (by simp) (by simp) (by simp)) ?_
          (fun _ id is j apart live_j => ?_) (fun g => ?_)
          (moveRef_defined linked.refs.defined (newGrade_defined passes))
        · refine .of_fields ?_ (by simp) (by simp) (by simp) (by simp)
          rw [modSlot_slot_other _ _ _ _ (Ne.symm apart), moveRef_slot]
        · refine (slotLinked_of_linked linked i).restyled live (by simp) (by simp) (by simp) (by simp) ?_
          rw [record, amended_eq]
        · obtain ⟨once, short, completedOnce⟩ := listsSound_of_linked linked
          exact ⟨by simpa using once, by simpa using short, by simpa using completedOnce⟩
        · rw [record, amended_shellId] at is
          cases carried : f.shellId with
          | none => exact id_unshared linked live id (by simpa [carried] using is) j apart live_j
          | some v =>
            have same : v = id := by simpa [carried] using is
            exact same ▸ idHeld_false ((amendFault_none passes).1 v carried) (by simpa using apart) live_j
        · rw [record, names_live live, names_live (state ▸ live), grade]
          exact moveRef_counts (refs_pos linked live) _ g

end Sys2Proof.Proofs

/-! SUPPORT. The material commands, holding and retiring, the rejudge engine, RESTART and POWER_ON keep the links of the shell table. -/

namespace Sys2Proof.Proofs

open Sys2Proof.Machine Sys2Proof.Laws

/-! ## Material entries without references -/

/-- A change of the fields of an entry without references keeps the links. -/
theorem setMaterial_linked {s : State} (linked : TableLinked s) {g : Fin Config.materials}
    (unused : ¬0 < (s.material g).refs) (fields : Option MaterialFields) :
    TableLinked (s.setMaterial g { s.material g with fields }) := by
  have lists := listsSound_of_linked linked
  have same : ∀ i, SameAt s (s.setMaterial g { s.material g with fields }) i := fun i =>
    .of_fields rfl .rfl .rfl rfl rfl
  refine linked_update (i := 0) linked (fun j _ => same j) ((same 0).linked (slotLinked_of_linked linked 0))
    (passagesSound_of_linked linked : PassagesSound s.tracker) ⟨lists.once, lists.short, lists.completedOnce⟩
    (fun live id is j apart live_j => id_unshared linked live id is j apart live_j) (fun q => ?_) fun q some => ?_
  · rw [setMaterial_material]
    split
    · rename_i is
      subst is
      rfl
    · rfl
  · rw [setMaterial_material] at some ⊢
    split at some
    · exact absurd some unused
    · rename_i isnt
      rw [if_neg isnt]
      exact linked.refs.defined q some

theorem materialWrite_linked (entry : Byte) (f : MaterialValues) (s : State) (linked : TableLinked s) :
    TableLinked (materialWrite entry f s).1 := by
  unfold materialWrite
  split
  · exact linked
  · split
    · exact linked
    · rename_i unused
      split
      · exact linked
      · exact setMaterial_linked linked unused _

theorem materialClear_linked (entry : Byte) (s : State) (linked : TableLinked s) :
    TableLinked (materialClear entry s).1 := by
  unfold materialClear
  split
  · exact linked
  · split
    · exact linked
    · rename_i unused
      exact setMaterial_linked linked unused none

/-! ## Claims and retirement -/

/-- New claims and a new RETIRE_PENDING mark on a live record keep the links when the mark stands only where it may. -/
theorem modSlot_claims_linked {s : State} (linked : TableLinked s) {i : Fin Config.slots}
    (live : (s.slot i).state ≠ .free) {f : Record → Record}
    (record : f (s.slot i) = { s.slot i with
      claims := (f (s.slot i)).claims, retirePending := (f (s.slot i)).retirePending })
    (pending : (f (s.slot i)).retirePending = true →
      (s.slot i).finished = true ∧ (f (s.slot i)).claims ≠ [] ∧ (s.slot i).rejudging = false) :
    TableLinked (s.modSlot i f) := by
  have state : (f (s.slot i)).state = (s.slot i).state := by rw [record]
  have generation : (f (s.slot i)).generation = (s.slot i).generation := by rw [record]
  have rejudging : (f (s.slot i)).rejudging = (s.slot i).rejudging := by rw [record]
  have verdict : (f (s.slot i)).verdict = (s.slot i).verdict := by rw [record]
  have shellId : (f (s.slot i)).shellId = (s.slot i).shellId := by rw [record]
  have shell : (f (s.slot i)).shell = (s.slot i).shell := by rw [record]
  have finished : (f (s.slot i)).finished = (s.slot i).finished := by simp [Record.finished, state]
  have here := slotLinked_of_linked linked i
  have lists := listsSound_of_linked linked
  refine linked_update (i := i) linked (fun j apart => modSlot_sameAt s f apart) ?_ (passagesSound_of_linked linked : PassagesSound s.tracker)
    ⟨lists.once, lists.short, lists.completedOnce⟩ ?_ (fun g => ?_) linked.refs.defined
  · constructor <;> rw [modSlot_slot_same]
    · rw [state]; exact here.armed
    · rw [finished]; exact here.finished
    · rw [generation]; exact here.generation
    · rw [state]; exact here.measuring
    · rw [state]; exact here.finishing
    · rw [rejudging]; exact here.held
    · rw [rejudging, finished]; exact here.judged
    · rw [finished, rejudging]; exact pending
    · exact fun free => absurd (state ▸ free) live
    · rw [finished, verdict]; exact here.verdict
    · rw [state, verdict]; exact here.void
  · rw [modSlot_slot_same, shellId]
    exact fun _ => id_unshared linked live
  · rw [modSlot_slot_same, names_live live, names_live (state ▸ live), shell]
    rfl

theorem claim_linked (source : Byte) (i : Fin Config.slots) (s : State) (live : (s.slot i).state ≠ .free)
    (linked : TableLinked s) : TableLinked (claim source i s).1 := by
  unfold claim
  dsimp only
  split
  · exact linked
  · split
    · exact linked
    · split
      · exact linked
      · refine modSlot_claims_linked (f := fun r => { r with claims := r.claims ++ [source] }) linked live rfl
          fun marked => ?_
        obtain ⟨finished, -, idle⟩ := linked.pending i marked
        exact ⟨finished, by simp, idle⟩

theorem release_linked (source : Byte) (i : Fin Config.slots) (s : State) (live : (s.slot i).state ≠ .free)
    (linked : TableLinked s) : TableLinked (release source i s).1 := by
  unfold release
  dsimp only
  split
  · exact linked
  · split
    · exact freeRecord_linked linked live
    · rename_i waits
      refine modSlot_claims_linked (f := fun r => { r with claims := r.without source }) linked live rfl
        fun marked => ?_
      obtain ⟨finished, -, idle⟩ := linked.pending i marked
      exact ⟨finished, fun none => waits ⟨none, marked⟩, idle⟩

theorem disarm_linked (i : Fin Config.slots) (s : State) (live : (s.slot i).state ≠ .free) (linked : TableLinked s) :
    TableLinked (disarm i s).1 := by
  unfold disarm
  split
  · exact freeRecord_linked linked live
  · exact linked

/-- A live record that is neither ARMED nor under way is finished. -/
theorem finished_of_rest {r : Record} (live : r.state ≠ .free) (unarmed : r.state ≠ .armed)
    (rests : r.underWay = false) : r.finished = true := by
  simp only [Record.underWay, decide_eq_false_iff_not] at rests
  simp only [Record.finished, decide_eq_true_eq]
  cases state : r.state <;> simp_all

theorem retire_linked (option : RetireOption) (i : Fin Config.slots) (s : State) (live : (s.slot i).state ≠ .free)
    (linked : TableLinked s) : TableLinked (retire option i s).1 := by
  unfold retire
  dsimp only
  split
  · exact linked
  · split
    · exact freeRecord_linked linked live
    · rename_i other
      split
      · exact linked
      · rename_i rests
        split
        · exact linked
        · rename_i idle
          split
          · exact freeRecord_linked linked live
          · rename_i claimed
            split
            · exact linked
            · exact modSlot_claims_linked (f := fun r => { r with retirePending := true }) linked live rfl fun _ =>
                ⟨finished_of_rest live (fun armed => other (.inl armed)) (by simpa using rests), claimed, by simpa using idle⟩

/-! ## Rejudging -/

/-- A change of the rejudge run and of its record alone keeps the links when the record's mark follows the run. -/
theorem rejudge_linked_of {s : State} (linked : TableLinked s) {i : Fin Config.slots} {engine : Option RejudgeRun}
    {f : Record → Record} (finished : (s.slot i).finished = true) (pending : (s.slot i).retirePending = false ∨
      (f (s.slot i)).rejudging = false)
    (record : f (s.slot i) = { s.slot i with
      rejudging := (f (s.slot i)).rejudging, strips := (f (s.slot i)).strips, zones := (f (s.slot i)).zones
      history := (f (s.slot i)).history, derived := (f (s.slot i)).derived, verdict := (f (s.slot i)).verdict })
    (verdict : (s.slot i).state = .void → (f (s.slot i)).verdict = (s.slot i).verdict)
    (marked : (f (s.slot i)).rejudging = true ↔ ∃ run, engine = some run ∧ run.slot = i)
    (others : ∀ run, run.slot ≠ i → (engine = some run ↔ s.engine = some run)) :
    TableLinked ({ s with engine }.modSlot i f) := by
  have live : (s.slot i).state ≠ .free := by
    intro free
    simp [Record.finished, free] at finished
  have slot : ({ s with engine }.modSlot i f).slot i = f (s.slot i) := modSlot_slot_same _ _ _
  have state : (f (s.slot i)).state = (s.slot i).state := by rw [record]
  have generation : (f (s.slot i)).generation = (s.slot i).generation := by rw [record]
  have retirePending : (f (s.slot i)).retirePending = (s.slot i).retirePending := by rw [record]
  have claims : (f (s.slot i)).claims = (s.slot i).claims := by rw [record]
  have shellId : (f (s.slot i)).shellId = (s.slot i).shellId := by rw [record]
  have shell : (f (s.slot i)).shell = (s.slot i).shell := by rw [record]
  have still : (f (s.slot i)).finished = true := by simpa [Record.finished, state] using finished
  have here := slotLinked_of_linked linked i
  have lists := listsSound_of_linked linked
  refine linked_update (i := i) linked (fun j apart => ?_) ?_ (passagesSound_of_linked linked : PassagesSound s.tracker)
    ⟨lists.once, lists.short, lists.completedOnce⟩ ?_ (fun g => ?_) linked.refs.defined
  · exact
      { record := by
          have same : ({ s with engine }.modSlot i f).slot j = s.slot j := modSlot_slot_other _ _ _ _ (Ne.symm apart)
          rw [same]
          exact .refl _
        queued := .rfl
        completed := .rfl
        bound := fun _ _ => .rfl
        rejudged := fun run at_j => others run (at_j ▸ apart) }
  · constructor <;> rw [slot]
    · rw [state]; exact here.armed
    · rw [still]; exact finished ▸ here.finished
    · rw [generation]; exact here.generation
    · rw [state]; exact here.measuring
    · rw [state]; exact here.finishing
    · exact marked
    · exact fun _ => still
    · rw [retirePending, claims]
      intro waits
      obtain ⟨-, claimed, -⟩ := here.pending waits
      exact ⟨still, claimed, pending.resolve_left (by simp [waits])⟩
    · exact fun free => absurd (state ▸ free) live
    · exact fun no => absurd still (by simp [no])
    · rw [state]
      exact fun void => (verdict void).trans (here.void void)
  · rw [slot, shellId]
    exact fun _ => id_unshared linked live
  · rw [slot, names_live live, names_live (state ▸ live), shell]
    rfl

theorem endRejudge_linked {s : State} (linked : TableLinked s) {run : RejudgeRun} (running : s.engine = some run) :
    TableLinked (s.endRejudge run) := by
  have marked := (linked.engine.held run.slot).mpr ⟨run, running, rfl⟩
  refine (sameTable_raise _ _ _).linked ?_
  refine rejudge_linked_of (engine := none)
    (f := fun r => { (if r.state = .complete then r.giveVerdict run.copy else r) with rejudging := false }) linked
    (linked.engine.finished run.slot marked) (.inr rfl) ?_ (fun void => ?_) (by simp) (fun other apart => ?_)
  · split
    · rw [giveVerdict_eq]
    · rfl
  · simp only
    rw [if_neg (by simp [void])]
  · rw [running]
    simpa using fun same => apart (by rw [same])

theorem startRejudge_linked {s : State} (linked : TableLinked s) {i : Fin Config.slots}
    (finished : (s.slot i).finished = true) (stays : (s.slot i).retirePending = false) (idle : s.engine = none) :
    TableLinked (s.startRejudge i) := by
  have started : TableLinked ({ s with
      engine := some { slot := i, copy := s.limit (s.slot i).shell.limitSet, reached := 0 } }.modSlot i
      fun r => { r with rejudging := true, derived := 0, zones := [] }) := by
    refine rejudge_linked_of linked finished (.inl stays) rfl (fun _ => rfl) (by simp) fun run apart => ?_
    rw [idle]
    simpa using fun same => apart (by rw [← same])
  simp only [State.startRejudge]
  split
  · exact endRejudge_linked started rfl
  · exact started

theorem rejudge_linked (i : Fin Config.slots) (s : State) (linked : TableLinked s) : TableLinked (rejudge i s).1 := by
  unfold rejudge
  split
  · exact linked
  · rename_i finished
    split
    · exact linked
    · rename_i stays
      split
      · exact linked
      · rename_i idle
        exact startRejudge_linked linked (by simpa using finished) (by simpa using stays) (by simpa using idle)

theorem rejudgeStep_linked {s : State} (linked : TableLinked s) : TableLinked s.rejudgeStep := by
  unfold State.rejudgeStep
  split
  · exact linked
  · rename_i run running
    have marked := (linked.engine.held run.slot).mpr ⟨run, running, rfl⟩
    have finished := linked.engine.finished run.slot marked
    split
    · have judged := sameShell_rejudgeStrip (s.slot run.slot) run.copy run.reached
      refine rejudge_linked_of linked finished (.inl ?_) ?_ (fun _ => judged.verdict) ?_ (fun other apart => ?_)
      · rw [Bool.eq_false_iff]
        exact fun waits => by simp [(linked.pending run.slot waits).2.2] at marked
      · rw [judged.same]
      · rw [judged.rejudging]
        simp [marked]
      · rw [running]
        constructor <;> (intro is; obtain rfl := Option.some.inj is; exact absurd rfl apart)
    · exact endRejudge_linked linked running

/-! ## Restarts -/

/-- A table of FREE records, with empty lists, no passage, no run and no reference, is linked. -/
theorem linked_of_empty {s : State} (slots : ∀ i, s.slot i = Record.free 0) (armQueue : s.armQueue = [])
    (completion : s.completion = []) (contexts : s.tracker.contexts = []) (blind : s.tracker.blind = false)
    (engine : s.engine = none) (refs : ∀ g, (s.material g).refs = 0) : TableLinked s := by
  refine linked_of_slots (fun i => ?_) ?_ ?_ ?_ ⟨fun g => ?_, fun g some => ?_⟩
  · exact slotLinked_free (slots i) (by simp [armQueue]) (by simp [completion]) (by simp [contexts]) (by simp [engine])
  · constructor <;> simp [contexts, blind]
  · constructor <;> simp [armQueue, completion]
  · exact fun i _ _ live => absurd (by simp [slots, Record.free]) live
  · rw [refs, naming_eq_sum]
    simp [slots]
  · simp [refs] at some

theorem restart_linked (s : State) : TableLinked s.restart := by
  refine linked_of_empty (fun i => ?_) rfl rfl rfl rfl rfl fun g => ?_
  · simp [State.slot, State.restart]
  · simp [State.material, State.restart]

theorem applySupply_linked (s : State) (straps : BitVec 2) : TableLinked (s.applySupply straps) := by
  refine linked_of_empty (fun i => ?_) rfl rfl rfl rfl rfl fun g => ?_
  · simp [State.slot, State.applySupply, State.powerOn]
  · simp [State.material, State.applySupply, State.powerOn]

end Sys2Proof.Proofs

/-! SUPPORT. Completions, arrivals, departures, stalls, advance pulses and shots keep the links of the shell table. -/

namespace Sys2Proof.Proofs

open Sys2Proof.Machine Sys2Proof.Laws

/-! ## Bound records -/

/-- The record of an open context is MEASURING or FINISHING, as the context's role says. -/
theorem context_state {s : State} (linked : TableLinked s) {c : Context} (mem : c ∈ s.tracker.contexts) :
    (s.slot c.slot).state = match c.role with
      | .measuring => .measuring
      | .finishing => .finishing := by
  cases role : c.role with
  | measuring => exact (linked.contexts.measuring c.slot).mp ⟨c, mem, rfl, role⟩
  | finishing => exact (linked.contexts.finishing c.slot).mp ⟨c, mem, rfl, role⟩

/-- The record of an open context is live and not finished. -/
theorem context_underWay {s : State} (linked : TableLinked s) {c : Context} (mem : c ∈ s.tracker.contexts) :
    (s.slot c.slot).underWay = true := by
  have state := context_state linked mem
  cases role : c.role <;> simp [Record.underWay, state, role]

theorem underWay_live {r : Record} (underWay : r.underWay = true) : r.state ≠ .free := by
  intro free
  simp [Record.underWay, free] at underWay

theorem underWay_unfinished {r : Record} (underWay : r.underWay = true) : r.finished = false := by
  simp only [Record.underWay, decide_eq_true_eq] at underWay
  rcases underWay with is | is <;> simp [Record.finished, is]

theorem underWay_uncompleted {s : State} (linked : TableLinked s) {i : Fin Config.slots}
    (underWay : (s.slot i).underWay = true) : i ∉ s.completion := by
  rw [linked.completion.finished, underWay_unfinished underWay]
  simp

/-! ## Changes that the links do not see -/

theorem modSlot_sameShell {s : State} {i : Fin Config.slots} {f : Record → Record} (live : (s.slot i).state ≠ .free)
    (same : SameShell (s.slot i) (f (s.slot i))) : SameTableLinks s (s.modSlot i f) :=
  modSlot_sameLinks (same.links live)

theorem flag_sameLinks {s : State} {i : Fin Config.slots} (live : (s.slot i).state ≠ .free) (k : HistoryFlag) :
    SameTableLinks s (s.modSlot i fun r => r.flag k) :=
  modSlot_sameShell live (sameShell_flag _ k)

theorem closeAll_sameLinks {s : State} {i : Fin Config.slots} (live : (s.slot i).state ≠ .free) :
    SameTableLinks s (s.closeAll i) :=
  modSlot_sameShell live (sameShell_closeStrips _ _ _)

theorem closeBehind_sameLinks {s : State} {i : Fin Config.slots} (live : (s.slot i).state ≠ .free) (d : Int) :
    SameTableLinks s (s.closeBehind i d) :=
  modSlot_sameShell live (sameShell_closeStrips _ _ _)

theorem poolShort_sameLinks {s : State} {i : Fin Config.slots} (live : (s.slot i).state ≠ .free) :
    SameTableLinks s (s.poolShort i) := by
  unfold State.poolShort
  dsimp only
  split
  · exact flag_sameLinks live _
  · exact (flag_sameLinks live _).trans (sameTable_raise _ _ _).links

theorem sameShell_truncateAt (r : Record) : SameShell r r.truncateAt := by
  unfold Record.truncateAt
  split
  · exact sameShell_flag r _
  · exact .refl r

theorem flagBound_sameLinks {s : State} (linked : TableLinked s) (k : HistoryFlag) :
    SameTableLinks s (s.flagBound k) := by
  have live : ∀ c ∈ s.tracker.contexts, (s.slot c.slot).state ≠ .free :=
    fun c mem => underWay_live (context_underWay linked mem)
  unfold State.flagBound
  generalize s.tracker.contexts = cs at live
  induction cs generalizing s with
  | nil => exact .refl s
  | cons c rest ih =>
    have first := flag_sameLinks (live c List.mem_cons_self) k
    refine first.trans (ih (first.linked linked) fun d mem => ?_)
    rw [(first.records d.slot).state]
    exact live d (List.mem_cons_of_mem _ mem)

/-! ## Completion -/

/-- The end of a completion or of a stall's part for one record: the record becomes finished and joins the completion order list, and its context ends. -/
structure Concludes (s t : State) (i : Fin Config.slots) : Prop where
  others : ∀ j, j ≠ i → t.slot j = s.slot j
  record : t.slot i = { s.slot i with
    state := (t.slot i).state, strips := (t.slot i).strips, zones := (t.slot i).zones, verdict := (t.slot i).verdict
    history := (t.slot i).history, derived := (t.slot i).derived }
  finished : (t.slot i).finished = true
  void : (t.slot i).state = .void → (t.slot i).verdict = .incomplete
  armQueue : t.armQueue = s.armQueue
  completion : t.completion = s.completion ++ [i]
  contexts : t.tracker.contexts = s.tracker.contexts.filter fun c => decide (c.slot ≠ i)
  blind : t.tracker.blind = s.tracker.blind
  entry : t.tracker.entry = s.tracker.entry
  engine : t.engine = s.engine
  materials : t.materials = s.materials

theorem finished_live {r : Record} (finished : r.finished = true) : r.state ≠ .free := by
  intro free
  simp [Record.finished, free] at finished

theorem concludes_linked {s t : State} {i : Fin Config.slots} (linked : TableLinked s)
    (underWay : (s.slot i).underWay = true) (ends : Concludes s t i) : TableLinked t := by
  have here := slotLinked_of_linked linked i
  have unfinished := underWay_unfinished underWay
  have uncompleted := underWay_uncompleted linked underWay
  obtain ⟨stays, idle, -⟩ := unfinished_bare here unfinished
  have live := finished_live ends.finished
  have generation : (t.slot i).generation = (s.slot i).generation := by rw [ends.record]
  have rejudging : (t.slot i).rejudging = false := by rw [ends.record]; exact idle
  have retirePending : (t.slot i).retirePending = false := by rw [ends.record]; exact stays
  have shellId : (t.slot i).shellId = (s.slot i).shellId := by rw [ends.record]
  have shell : (t.slot i).shell = (s.slot i).shell := by rw [ends.record]
  have none : ∀ role, ¬∃ c ∈ t.tracker.contexts, c.slot = i ∧ c.role = role := by
    rw [ends.contexts]
    simp +contextual
  have state := ends.finished
  simp only [Record.finished, decide_eq_true_eq] at state
  have sound := passagesSound_of_linked linked
  have lists := listsSound_of_linked linked
  refine linked_update (i := i) linked (fun j apart => ?_) ?_
    (passagesSound_filter sound _ ends.contexts ends.entry fun is => ?_) ⟨?_, ?_, ?_⟩ ?_ (fun g => ?_) fun g some => ?_
  · exact
      { record := by rw [ends.others j apart]; exact .refl _
        queued := by rw [ends.armQueue]
        completed := by rw [ends.completion]; simp [apart]
        bound := fun c at_j => by rw [ends.contexts]; simp [at_j, apart]
        rejudged := fun _ _ => by rw [ends.engine] }
  · constructor
    · rw [ends.armQueue, here.armed]
      simp only [Record.underWay, decide_eq_true_eq] at underWay
      rcases underWay with was | was <;> rcases state with is | is <;> simp [was, is]
    · rw [ends.completion, ends.finished]; simp
    · rw [ends.contexts]
      simp +contextual
    · refine ⟨fun some => absurd some (none _), fun is => ?_⟩
      rcases state with now | now <;> simp [now] at is
    · refine ⟨fun some => absurd some (none _), fun is => ?_⟩
      rcases state with now | now <;> simp [now] at is
    · rw [rejudging, ends.engine, ← idle]; exact here.held
    · exact fun _ => ends.finished
    · exact fun waits => absurd waits (by simp [retirePending])
    · exact fun free => absurd free live
    · exact fun no => absurd ends.finished (by simp [no])
    · exact ends.void
  · rw [ends.blind] at is
    exact ⟨not_dark_of_blind sound is, fun c mem => sound.blindApart is c (List.mem_of_mem_filter (ends.contexts ▸ mem))⟩
  · rw [ends.armQueue]; exact lists.once
  · rw [ends.armQueue]; exact lists.short
  · rw [ends.completion]
    exact List.nodup_append.mpr
      ⟨lists.completedOnce, by simp, by simpa using fun j mem (at_i : j = i) => uncompleted (at_i ▸ mem)⟩
  · rw [shellId]
    exact fun _ => id_unshared linked (underWay_live underWay)
  · rw [names_live live, names_live (underWay_live underWay), shell, State.material, ends.materials]
    rfl
  · rw [State.material, ends.materials] at some ⊢
    exact linked.refs.defined g some

/-- What a completion leaves: the links, and the passages but for the context that it ends. -/
structure CompletionKeeps (s t : State) (i : Fin Config.slots) : Prop where
  linked : TableLinked t
  contexts : t.tracker.contexts = s.tracker.contexts.filter fun c => decide (c.slot ≠ i)
  blind : t.tracker.blind = s.tracker.blind
  entry : t.tracker.entry = s.tracker.entry

/-- The record of a completion once its strips are there and closed: VOID or COMPLETE, last in the completion order list, its context ended. -/
theorem concludes_of_closed (s : State) (i : Fin Config.slots) (failed : Bool) :
    let u := (if failed then s.voidRecord i else s.finishRecord i).appendCompletion i
    Concludes s (u.setTracker (u.tracker.endContext i)) i := by
  cases failed with
  | true =>
    simp only [if_true]
    exact
      { others := fun j apart => voidRecord_slot_other s (Ne.symm apart)
        record := by simp
        finished := by simp [Record.finished]
        void := by simp
        armQueue := rfl, completion := rfl, contexts := rfl, blind := rfl, entry := rfl, engine := rfl, materials := rfl }
  | false =>
    simp only [Bool.false_eq_true, if_false]
    exact
      { others := fun j apart => finishRecord_slot_other s (Ne.symm apart)
        record := by simp only [setTracker_slot, appendCompletion_slot, finishRecord_slot_same]; rw [giveVerdict_eq]
        finished := by simp [Record.finished]
        void := by simp
        armQueue := rfl, completion := rfl, contexts := rfl, blind := rfl, entry := rfl, engine := rfl, materials := rfl }

theorem completeRecord_keeps {s : State} {i : Fin Config.slots} (linked : TableLinked s)
    (underWay : (s.slot i).underWay = true) : CompletionKeeps s (s.completeRecord i) i := by
  have live := underWay_live underWay
  have truncated := modSlot_sameShell (f := Record.truncateAt) live (sameShell_truncateAt _)
  have linked' := truncated.linked linked
  have filled : FillKeeps (s.modSlot i Record.truncateAt) (s.fillStrips i).1 i :=
    allocStrips_fillKeeps linked' ((truncated.records i).state ▸ live) (underWay_uncompleted linked underWay) _
  have record := (truncated.records i).trans filled.record
  have live_f : ((s.fillStrips i).1.slot i).state ≠ .free := record.state ▸ live
  have short : SameTableLinks (s.fillStrips i).1
      (if (s.fillStrips i).2 then (s.fillStrips i).1 else (s.fillStrips i).1.poolShort i) := by
    split
    · exact .refl _
    · exact poolShort_sameLinks live_f
  simp only [State.completeRecord]
  generalize (if (s.fillStrips i).2 then (s.fillStrips i).1 else (s.fillStrips i).1.poolShort i) = s1 at short
  have closed := short.trans (closeAll_sameLinks ((short.records i).state ▸ live_f))
  have underWay_c : ((s1.closeAll i).slot i).underWay = true := by
    rw [(closed.records i).underWay, record.underWay]
    exact underWay
  have ends := concludes_of_closed (s1.closeAll i) i
    (!(s.fillStrips i).2 || hasHistory ((s1.closeAll i).slot i).history .truncated)
  exact
    { linked := concludes_linked (closed.linked filled.linked) underWay_c ends
      contexts := by rw [ends.contexts, closed.contexts, filled.contexts]; rfl
      blind := ends.blind.trans (closed.blind.trans filled.blind)
      entry := ends.entry.trans (closed.entry.trans filled.entry) }

theorem cutShort_keeps {s : State} {i : Fin Config.slots} (linked : TableLinked s)
    (underWay : (s.slot i).underWay = true) : CompletionKeeps s (s.cutShort i) i := by
  have flagged := flag_sameLinks (underWay_live underWay) .cutShort
  have done := completeRecord_keeps (i := i) (flagged.linked linked)
    (by rw [(flagged.records i).underWay]; exact underWay)
  exact ⟨done.linked, done.contexts, done.blind, done.entry⟩

/-! ## Advance pulses -/

theorem advanceContext_keeps {s : State} {c : Context} (linked : TableLinked s) (mem : c ∈ s.tracker.contexts) :
    TableLinked (s.advanceContext c) ∧
      ∀ d ∈ s.tracker.contexts, d.slot ≠ c.slot → d ∈ (s.advanceContext c).tracker.contexts := by
  have underWay := context_underWay linked mem
  have closed := closeBehind_sameLinks (underWay_live underWay) (s.rearDistance c)
  simp only [State.advanceContext]
  split
  · have done := completeRecord_keeps (i := c.slot) (closed.linked linked)
      (by rw [(closed.records c.slot).underWay]; exact underWay)
    refine ⟨done.linked, fun d mem_d apart => ?_⟩
    rw [done.contexts, closed.contexts]
    simp [mem_d, apart]
  · exact ⟨closed.linked linked, fun d mem_d _ => by rw [closed.contexts]; exact mem_d⟩

/-- What the pulse on the count and the part of each open context keep of a linked table, an advance pulse keeps. -/
theorem advancePulse_keeps {P : State → Prop} {s : State} (linked : TableLinked s)
    (pulsed : P (s.setTracker s.tracker.pulse))
    (each : ∀ u c, TableLinked u → c ∈ u.tracker.contexts → P u → P (u.advanceContext c)) :
    TableLinked s.advancePulse ∧ P s.advancePulse := by
  have every : ∀ (cs : List Context) (u : State), TableLinked u → P u → (∀ c ∈ cs, c ∈ u.tracker.contexts) →
      (cs.map Context.slot).Nodup →
      TableLinked (cs.foldl State.advanceContext u) ∧ P (cs.foldl State.advanceContext u) := by
    intro cs
    induction cs with
    | nil => exact fun u kept also _ _ => ⟨kept, also⟩
    | cons c rest ih =>
      intro u kept also mem distinct
      obtain ⟨apart, distinct_rest⟩ := List.nodup_cons.mp distinct
      obtain ⟨kept', stay⟩ := advanceContext_keeps kept (mem c List.mem_cons_self)
      refine ih _ kept' (each u c kept (mem c List.mem_cons_self) also)
        (fun d mem_d => stay d (mem d (List.mem_cons_of_mem _ mem_d)) fun same => ?_) distinct_rest
      exact apart (List.mem_map.mpr ⟨d, mem_d, same⟩)
  have same : SameTable s (s.setTracker s.tracker.pulse) := sameTable_setTracker rfl rfl rfl
  exact every _ _ (same.linked linked) pulsed (fun _ mem => mem) linked.contexts.distinct

theorem advancePulse_linked {s : State} (linked : TableLinked s) : TableLinked s.advancePulse :=
  (advancePulse_keeps (P := fun _ => True) linked trivial fun _ _ _ _ _ => trivial).1

/-! ## Stalls -/

/-- One record's part in a stall, its context taken to end with it. -/
theorem stallRecord_linked {s : State} {t : Tracker} {c : Context} {rest : List Context}
    (linked : TableLinked (s.setTracker { t with contexts := c :: rest })) :
    TableLinked ((s.stallRecord c).setTracker { t with contexts := rest }) := by
  have underWay : (s.slot c.slot).underWay = true := context_underWay linked List.mem_cons_self
  have judged := (sameShell_flag (s.slot c.slot) .stalled).trans
    (sameShell_closeStrips _ (s.limit (s.slot c.slot).shell.limitSet) fun _ => true)
  refine concludes_linked linked underWay
    { others := fun j apart => stallRecord_slot_other s c (Ne.symm apart), record := ?_, finished := ?_, void := ?_,
      armQueue := rfl, completion := rfl, contexts := ?_, blind := rfl, entry := rfl, engine := rfl, materials := rfl }
  · simp only [setTracker_slot, stallRecord_slot_same]
    rw [judged.same]
  · simp [Record.finished]
  · simp
  · obtain ⟨apart, -⟩ := List.nodup_cons.mp linked.contexts.distinct
    have others : ∀ d ∈ rest, d.slot ≠ c.slot := fun d mem same => apart (List.mem_map.mpr ⟨d, mem, same⟩)
    have kept : rest.filter (fun d => decide (d.slot ≠ c.slot)) = rest :=
      List.filter_eq_self.mpr fun d mem => decide_eq_true (others d mem)
    simp only [setTracker_tracker, List.filter_cons]
    rw [kept]
    simp

/-- A change of the tracker that leaves the contexts and keeps the passages sound keeps the links. -/
theorem setTracker_linked {s : State} (linked : TableLinked s) {t : Tracker}
    (contexts : t.contexts = s.tracker.contexts) (sound : PassagesSound t) : TableLinked (s.setTracker t) := by
  have same : ∀ i, SameAt s (s.setTracker t) i := fun i => .of_fields rfl .rfl .rfl contexts rfl
  exact linked_of_slots (fun i => (same i).linked (slotLinked_of_linked linked i)) sound
    ⟨linked.arming.once, linked.arming.short, linked.completion.once⟩ linked.ids
    ⟨linked.refs.count, linked.refs.defined⟩

/-- A blind passage may end at any time. -/
theorem endBlind_linked {s : State} (linked : TableLinked s) :
    TableLinked (s.setTracker { s.tracker with blind := false }) := by
  have sound := passagesSound_of_linked linked
  exact setTracker_linked linked rfl
    ⟨sound.distinct, sound.two, sound.oneMeasuring, by simp, fun dark => ⟨rfl, (sound.dark dark).2⟩⟩

theorem foldl_stallRecord_tracker (cs : List Context) (s : State) :
    (cs.foldl State.stallRecord s).tracker = s.tracker := by
  induction cs generalizing s with
  | nil => rfl
  | cons c rest ih => exact ih _

theorem stallAll_linked {s : State} (linked : TableLinked s) : TableLinked s.stallAll := by
  have each : ∀ (cs : List Context) (u : State) (t : Tracker), TableLinked (u.setTracker { t with contexts := cs }) →
      TableLinked ((cs.foldl State.stallRecord u).setTracker { t with contexts := [] }) := by
    intro cs
    induction cs with
    | nil => exact fun _ _ kept => kept
    | cons c rest ih => exact fun u t kept => ih _ t (stallRecord_linked kept)
  have done := each s.tracker.contexts s { s.tracker with blind := false } (endBlind_linked linked)
  refine SameTable.linked ?_ done
  exact ⟨rfl, rfl, rfl, rfl, rfl, by rw [State.stallAll]; simp [foldl_stallRecord_tracker], rfl, rfl, rfl⟩

/-! ## Arrivals -/

/-- The passages between the lit edge and the opening of its passage: all open contexts are FINISHING, at most one, and no blind passage. -/
structure Awaits (t : Tracker) : Prop where
  entry : t.entry = .lit
  blind : t.blind = false
  finishing : ∀ c ∈ t.contexts, c.role = .finishing
  one : t.contexts.length ≤ 1

theorem takeEdge_linked {s : State} (linked : TableLinked s) : TableLinked (s.setTracker (s.tracker.takeEdge .lit)) := by
  have sound := passagesSound_of_linked linked
  exact setTracker_linked linked rfl
    ⟨sound.distinct, sound.two, sound.oneMeasuring, sound.blindApart, by simp [Tracker.takeEdge]⟩

theorem makeRoom_linked {s : State} (linked : TableLinked s) (lit : s.tracker.entry = .lit)
    (blind : s.tracker.blind = false) (finishing : ∀ c ∈ s.tracker.contexts, c.role = .finishing) :
    TableLinked s.makeRoom ∧ Awaits s.makeRoom.tracker := by
  unfold State.makeRoom
  split
  · rename_i older newer rest is
    have done := cutShort_keeps linked (context_underWay linked (c := older) (by simp [is]))
    have two := linked.contexts.two
    refine ⟨done.linked, done.entry.trans lit, done.blind.trans blind, fun c mem => ?_, ?_⟩
    · exact finishing c (List.mem_of_mem_filter (done.contexts ▸ mem))
    · have fewer : ((newer :: rest).filter fun c => decide (c.slot ≠ older.slot)).length ≤ (newer :: rest).length :=
        List.length_filter_le ..
      have none : (s.cutShort older.slot).tracker.contexts =
          (newer :: rest).filter fun c => decide (c.slot ≠ older.slot) := by
        rw [done.contexts, is]
        simp
      rw [none]
      rw [is] at two
      exact fewer.trans (Nat.le_of_succ_le_succ two)
  · rename_i few
    refine ⟨linked, lit, blind, finishing, ?_⟩
    match is : s.tracker.contexts with
    | [] => simp
    | [c] => simp
    | older :: newer :: rest => exact absurd is (few older newer rest)

/-- Opening a MEASURING context for a record bound to none. -/
theorem passagesSound_open {t t' : Tracker} (sound : PassagesSound t) (awaits : Awaits t) {c : Context}
    (unbound : ∀ d ∈ t.contexts, d.slot ≠ c.slot) (contexts : t'.contexts = t.contexts ++ [c])
    (blind : t'.blind = t.blind) (entry : t'.entry = t.entry) : PassagesSound t' where
  distinct := by
    rw [contexts, List.map_append, List.nodup_append]
    refine ⟨sound.distinct, by simp, ?_⟩
    simpa using unbound
  two := by
    rw [contexts, List.length_append]
    exact Nat.succ_le_succ awaits.one
  oneMeasuring := by
    have none : t.contexts.filter (fun c => decide (c.role = .measuring)) = [] :=
      List.filter_eq_nil_iff.mpr fun d mem => by simp [awaits.finishing d mem]
    rw [contexts, List.filter_append, none, List.nil_append]
    exact List.length_filter_le _ [c]
  blindApart is := by simp [blind, awaits.blind] at is
  dark is := by simp [entry, awaits.entry] at is

/-- A record becomes MEASURING at a slot together with its new context, its material references and its id following, and the links are kept. -/
theorem openPassage_linked {s t : State} {i : Fin Config.slots} {edge : Word} (linked : TableLinked s)
    (awaits : Awaits s.tracker) (unbound : ∀ c ∈ s.tracker.contexts, c.slot ≠ i)
    (others : ∀ j, j ≠ i → t.slot j = s.slot j) (measuring : (t.slot i).state = .measuring)
    (bare : (t.slot i).rejudging = false ∧ (t.slot i).retirePending = false ∧ (t.slot i).verdict = .none)
    (uncompleted : i ∉ s.completion) (unheld : ∀ run, s.engine = some run → run.slot ≠ i)
    (queue : t.armQueue.Nodup ∧ t.armQueue.length ≤ Config.armingPlaces ∧ ∀ j, j ∈ t.armQueue ↔ j ∈ s.armQueue ∧ j ≠ i)
    (completion : t.completion = s.completion) (engine : t.engine = s.engine)
    (contexts : t.tracker.contexts = s.tracker.contexts ++
      [{ slot := i, generation := (t.slot i).generation, front := edge, tail := none, role := .measuring }])
    (blind : t.tracker.blind = s.tracker.blind) (entry : t.tracker.entry = s.tracker.entry)
    (fresh : ∀ id, (t.slot i).shellId = some id → ∀ j, j ≠ i → (s.slot j).state ≠ .free → (s.slot j).shellId ≠ some id)
    (moved : ∀ g, (t.material g).refs + Record.names (s.slot i) g = (s.material g).refs + Record.names (t.slot i) g)
    (defined : ∀ g, 0 < (t.material g).refs → (t.material g).fields.isSome = true) : TableLinked t := by
  obtain ⟨idle, stays, verdict⟩ := bare
  obtain ⟨once, short, members⟩ := queue
  have unfinished : (t.slot i).finished = false := by simp [Record.finished, measuring]
  refine linked_update (i := i) linked (fun j apart => ?_) ?_
    (passagesSound_open (passagesSound_of_linked linked) awaits unbound contexts blind entry)
    ⟨once, short, completion ▸ linked.completion.once⟩ (fun _ => fresh) moved defined
  · exact
      { record := by rw [others j apart]; exact .refl _
        queued := by simp [members, apart]
        completed := by rw [completion]
        bound := fun c at_j => by
          rw [contexts, List.mem_append, List.mem_singleton]
          exact or_iff_left fun is => apart (at_j ▸ is ▸ rfl)
        rejudged := fun _ _ => by rw [engine] }
  · constructor
    · rw [measuring, members]; simp
    · rw [completion, unfinished]; simpa using uncompleted
    · rw [contexts]
      intro c mem at_i
      rcases List.mem_append.mp mem with old | new
      · exact absurd at_i (unbound c old)
      · rw [List.mem_singleton.mp new]
    · rw [contexts, measuring]; simp
    · rw [contexts, measuring]
      simp only [List.mem_append, List.mem_singleton, reduceCtorEq, iff_false]
      rintro ⟨c, old | rfl, at_i, role⟩
      · exact unbound c old at_i
      · cases role
    · rw [idle, engine]
      simpa using unheld
    · exact fun is => absurd is (by simp [idle])
    · exact fun is => absurd is (by simp [stays])
    · exact fun is => absurd is (by simp [measuring])
    · exact fun _ => verdict
    · exact fun is => absurd is (by simp [measuring])

/-- The head of the arming queue becomes MEASURING with its context. -/
theorem bindArmed_linked {s : State} {i : Fin Config.slots} {rest : List (Fin Config.slots)} {edge : Word}
    (linked : TableLinked s) (awaits : Awaits s.tracker) (queue : s.armQueue = i :: rest) :
    TableLinked ((s.bindArmed i rest).openPassage edge (some i)) := by
  have here := slotLinked_of_linked linked i
  have armed : (s.slot i).state = .armed := here.armed.mp (by simp [queue])
  have unfinished : (s.slot i).finished = false := by simp [Record.finished, armed]
  obtain ⟨stays, idle, verdict⟩ := unfinished_bare here unfinished
  have unbound : ∀ c ∈ s.tracker.contexts, c.slot ≠ i := fun c mem at_i => by
    have underWay := at_i ▸ context_underWay linked mem
    simp [Record.underWay, armed] at underWay
  have live : (s.slot i).state ≠ .free := by simp [armed]
  have slot : ((s.bindArmed i rest).openPassage edge (some i)).slot i = { s.slot i with state := .measuring } :=
    modSlot_slot_same _ i fun r => { r with state := .measuring }
  have once := linked.arming.once
  have short := linked.arming.short
  rw [queue] at once short
  obtain ⟨out, once_rest⟩ := List.nodup_cons.mp once
  refine openPassage_linked (edge := edge) (i := i) linked awaits unbound (fun j apart => ?_) ?_ ?_
    (fun mem => by simp [here.finished, unfinished] at mem) (fun run is at_i => ?_) ⟨once_rest, ?_, fun j => ?_⟩ rfl rfl
    ?_ rfl rfl ?_ (fun g => ?_) linked.refs.defined
  · exact modSlot_slot_other _ i j (fun r => { r with state := .measuring }) (Ne.symm apart)
  · rw [slot]
  · rw [slot]; exact ⟨idle, stays, verdict⟩
  · have marked := here.held.mpr ⟨run, is, at_i⟩
    simp [idle] at marked
  · exact Nat.le_of_succ_le short
  · rw [queue, List.mem_cons]
    constructor
    · exact fun mem => ⟨.inr mem, fun same => out (same ▸ mem)⟩
    · exact fun ⟨mem, apart⟩ => mem.resolve_left apart
  · rfl
  · rw [slot]
    exact fun id => id_unshared linked live id
  · rw [slot, names_live live, names_live (by simp)]
    rfl

@[simp] theorem placeAnonymous_slot_same (s : State) (i : Fin Config.slots) : (s.placeAnonymous i).slot i =
    .made (s.slot i).generation .measuring s.template none HistoryFlag.unnamed.mask :=
  modSlot_slot_same s i fun r => .made r.generation .measuring s.template none HistoryFlag.unnamed.mask

theorem placeAnonymous_slot_other (s : State) {i j : Fin Config.slots} (apart : i ≠ j) :
    (s.placeAnonymous i).slot j = s.slot j :=
  modSlot_slot_other s i j (fun r => .made r.generation .measuring s.template none HistoryFlag.unnamed.mask) apart

theorem placeAnonymous_material (s : State) (i : Fin Config.slots) (g : Fin Config.materials) :
    (s.placeAnonymous i).material g = (s.refUp s.template.grade).material g := by
  simp only [State.placeAnonymous, refUp_material]
  rfl

/-- An anonymous record in a FREE slot, its template's entry DEFINED, with its context. -/
theorem placeAnonymous_linked {s : State} {i : Fin Config.slots} {edge : Word} (linked : TableLinked s)
    (awaits : Awaits s.tracker) (free : (s.slot i).state = .free) (defined : s.defined s.template.grade = true) :
    TableLinked ((s.placeAnonymous i).openPassage edge (some i)) := by
  obtain ⟨unqueued, uncompleted, unbound, unheld⟩ := free_unnamed (slotLinked_of_linked linked i) free
  have slot : ((s.placeAnonymous i).openPassage edge (some i)).slot i =
      .made (s.slot i).generation .measuring s.template none HistoryFlag.unnamed.mask := placeAnonymous_slot_same s i
  have materials : ∀ g, ((s.placeAnonymous i).openPassage edge (some i)).material g =
      (s.refUp s.template.grade).material g := placeAnonymous_material s i
  refine openPassage_linked (edge := edge) (i := i) linked awaits unbound
    (fun j apart => placeAnonymous_slot_other s (Ne.symm apart)) ?_ ?_ uncompleted unheld
    ⟨linked.arming.once, linked.arming.short, fun j => ?_⟩ rfl rfl rfl rfl rfl ?_ (refUp_counts materials free ?_ ?_)
    (refUp_defined linked materials defined)
  · rw [slot]; rfl
  · rw [slot]; exact ⟨rfl, rfl, rfl⟩
  · exact ⟨fun mem => ⟨mem, fun same => unqueued (same ▸ mem)⟩, fun ⟨mem, _⟩ => mem⟩
  · rw [slot]
    exact fun _ is => absurd is (by simp [Record.made])
  · rw [slot]
    simp [Record.made]
  · rw [slot]
    rfl

/-- An arrival without a record opens a blind passage. -/
theorem openBlind_linked {s : State} (linked : TableLinked s) (awaits : Awaits s.tracker) (edge : Word) :
    TableLinked (s.openPassage edge none) := by
  have sound := passagesSound_of_linked linked
  exact setTracker_linked linked rfl
    ⟨sound.distinct, sound.two, sound.oneMeasuring, fun _ => awaits.finishing,
      fun dark => by have lit := awaits.entry; simp_all⟩

theorem seekRecord_linked {s : State} (linked : TableLinked s) (awaits : Awaits s.tracker) (edge : Word) :
    TableLinked (s.seekRecord.1.openPassage edge s.seekRecord.2) := by
  have unrecorded : TableLinked ((s.raise .unrecorded .none).openPassage edge none) :=
    openBlind_linked ((sameTable_raise s _ _).linked linked) awaits edge
  unfold State.seekRecord
  split
  · rename_i i rest queue
    exact bindArmed_linked linked awaits queue
  · split
    · rename_i defined
      split
      · rename_i i t taken
        obtain ⟨kept, apart⟩ := allocSlot_linked linked taken
        refine placeAnonymous_linked kept ⟨?_, ?_, ?_, ?_⟩ (allocSlot_free taken) ?_
        · rw [apart.entry]; exact awaits.entry
        · rw [apart.blind]; exact awaits.blind
        · rw [apart.contexts]; exact awaits.finishing
        · rw [apart.contexts]; exact awaits.one
        · rw [State.defined, apart.defined, apart.template]
          exact defined
      · exact unrecorded
    · exact unrecorded

theorem litEdge_linked {s t : State} (linked : TableLinked s) (next : execLitEdge s = .next t) : TableLinked t := by
  obtain rfl := Host.Outcome.next.inj next
  split
  · rename_i edge dark candidate
    obtain ⟨blind, finishing⟩ := linked.contexts.dark dark
    obtain ⟨kept, awaits⟩ := makeRoom_linked (takeEdge_linked linked) rfl blind finishing
    exact seekRecord_linked kept awaits edge
  · exact linked

/-! ## Departures -/

/-- The tail passes: the one MEASURING context and its record become FINISHING, and the entry state DARK. -/
theorem departure_linked_measuring {s t : State} {c : Context} {edge : Word} (linked : TableLinked s)
    (mem : c ∈ s.tracker.contexts) (measuring : c.role = .measuring)
    (others : ∀ j, j ≠ c.slot → t.slot j = s.slot j)
    (record : t.slot c.slot = { s.slot c.slot with state := .finishing, length := (t.slot c.slot).length })
    (contexts : t.tracker.contexts = s.tracker.contexts.map fun d => if d.slot = c.slot then d.finish edge else d)
    (blind : t.tracker.blind = s.tracker.blind) (armQueue : t.armQueue = s.armQueue)
    (completion : t.completion = s.completion) (engine : t.engine = s.engine) (materials : t.materials = s.materials) :
    TableLinked t := by
  have sound := passagesSound_of_linked linked
  have here := slotLinked_of_linked linked c.slot
  have was : (s.slot c.slot).state = .measuring := by simpa [measuring] using context_state linked mem
  have unfinished : (s.slot c.slot).finished = false := by simp [Record.finished, was]
  obtain ⟨stays, idle, verdict⟩ := unfinished_bare here unfinished
  have state : (t.slot c.slot).state = .finishing := by rw [record]
  have generation : (t.slot c.slot).generation = (s.slot c.slot).generation := by rw [record]
  have rejudging : (t.slot c.slot).rejudging = false := by rw [record]; exact idle
  have retirePending : (t.slot c.slot).retirePending = false := by rw [record]; exact stays
  have sighted : (t.slot c.slot).verdict = .none := by rw [record]; exact verdict
  have shellId : (t.slot c.slot).shellId = (s.slot c.slot).shellId := by rw [record]
  have shell : (t.slot c.slot).shell = (s.slot c.slot).shell := by rw [record]
  have live : (s.slot c.slot).state ≠ .free := by simp [was]
  have slots : t.tracker.contexts.map Context.slot = s.tracker.contexts.map Context.slot := by
    rw [contexts, List.map_map]
    refine List.map_congr_left fun d _ => ?_
    simp only [Function.comp_apply]
    split <;> rfl
  have finishing : ∀ d ∈ t.tracker.contexts, d.role = .finishing := by
    rw [contexts]
    intro d mem_d
    obtain ⟨d0, mem_0, rfl⟩ := List.mem_map.mp mem_d
    split
    · rfl
    · rename_i apart
      exact finishing_of_measures sound ((measures_iff _ _).mpr ⟨c, mem, rfl, measuring⟩) d0 mem_0 apart
  have sighted_first : s.tracker.blind = false := by
    rw [Bool.eq_false_iff]
    exact fun is => by simp [sound.blindApart is c mem] at measuring
  refine linked_update (i := c.slot) linked (fun j apart => ?_) ?_ ⟨?_, ?_, ?_, fun _ => finishing, fun _ => ⟨?_, finishing⟩⟩
    ⟨armQueue ▸ linked.arming.once, armQueue ▸ linked.arming.short, completion ▸ linked.completion.once⟩ ?_ (fun g => ?_)
    fun g some => ?_
  · exact
      { record := by rw [others j apart]; exact .refl _
        queued := by rw [armQueue]
        completed := by rw [completion]
        bound := fun d at_j => by
          have aside : d.slot ≠ c.slot := at_j ▸ apart
          rw [contexts, List.mem_map]
          constructor
          · rintro ⟨d0, mem_0, is⟩
            split at is
            · rename_i same
              exact absurd (is ▸ same : d.slot = c.slot) aside
            · exact is ▸ mem_0
          · exact fun mem_d => ⟨d, mem_d, if_neg aside⟩
        rejudged := fun _ _ => by rw [engine] }
  · constructor
    · rw [armQueue, state, here.armed, was]; simp
    · rw [completion, here.finished, unfinished]; simp [Record.finished, state]
    · rw [contexts, generation]
      intro d mem_d at_c
      obtain ⟨d0, mem_0, is⟩ := List.mem_map.mp mem_d
      split at is
      · rename_i same
        exact is ▸ here.generation d0 mem_0 same
      · exact is ▸ here.generation d0 mem_0 (is ▸ at_c)
    · rw [state]
      simp only [reduceCtorEq, iff_false]
      exact fun ⟨d, mem_d, _, role⟩ => by simp [finishing d mem_d] at role
    · rw [state, contexts]
      simp only [iff_true]
      exact ⟨c.finish edge, List.mem_map.mpr ⟨c, mem, by simp⟩, rfl, rfl⟩
    · rw [rejudging, engine, ← idle]; exact here.held
    · exact fun is => absurd is (by simp [rejudging])
    · exact fun is => absurd is (by simp [retirePending])
    · exact fun is => absurd is (by simp [state])
    · exact fun _ => sighted
    · exact fun is => absurd is (by simp [state])
  · rw [slots]; exact sound.distinct
  · have same := congrArg List.length slots
    simp only [List.length_map] at same
    exact same ▸ sound.two
  · have none : t.tracker.contexts.filter (fun d => decide (d.role = .measuring)) = [] :=
      List.filter_eq_nil_iff.mpr fun d mem_d => by simp [finishing d mem_d]
    simp [none]
  · exact blind.trans sighted_first
  · rw [shellId]
    exact fun _ => id_unshared linked live
  · rw [names_live live, names_live (by simp [state]), shell, State.material, materials]
    rfl
  · rw [State.material, materials] at some ⊢
    exact linked.refs.defined g some

theorem darkEdge_linked {s t : State} (linked : TableLinked s) (next : execDarkEdge s = .next t) : TableLinked t := by
  obtain rfl := Host.Outcome.next.inj next
  split
  · rename_i edge _ _
    have sound := passagesSound_of_linked linked
    unfold State.departure
    split
    · rename_i c found
      have measuring : c.role = .measuring := by simpa using List.find?_some found
      refine departure_linked_measuring (c := c) (edge := edge) linked (List.mem_of_find?_eq_some found) measuring
        (fun j apart => modSlot_slot_other _ c.slot j _ (Ne.symm apart)) ?_ rfl rfl rfl rfl rfl rfl
      rw [modSlot_slot_same]
      rfl
    · rename_i none
      have finishing : ∀ c ∈ s.tracker.contexts, c.role = .finishing := fun c mem => by
        have isnt : ¬decide (c.role = .measuring) = true := List.find?_eq_none.mp none c mem
        cases role : c.role with
        | finishing => rfl
        | measuring => simp [role] at isnt
      exact setTracker_linked linked rfl
        ⟨sound.distinct, sound.two, sound.oneMeasuring, fun _ => finishing, fun _ => ⟨rfl, finishing⟩⟩
  · exact linked

/-! ## Flags of bound records -/

theorem spinTimeout_linked {s t : State} (linked : TableLinked s) (next : execSpinTimeout s = .next t) :
    TableLinked t := by
  obtain rfl := Host.Outcome.next.inj next
  split
  · have lost : SameTable s (s.setTracker { s.tracker with spin := .unsynced, spinTimer := .stopped }) :=
      sameTable_setTracker rfl rfl rfl
    have linked' := lost.linked linked
    simp only [State.loseSpin]
    split
    · exact linked'
    · exact (sameTable_raise _ _ _).linked ((flagBound_sameLinks linked' _).linked linked')
  · exact linked

theorem silenceTimeout_linked {s t : State} {h : Fin Config.heads} (linked : TableLinked s)
    (next : execSilenceTimeout h s = .next t) : TableLinked t := by
  obtain rfl := Host.Outcome.next.inj next
  split
  · unfold State.fallSilent
    split
    · exact (sameTable_setHead s h _).linked linked
    · have linked' := (sameTable_setHead s h { s.head h with state := .silent, silenceTimer := .stopped }).linked linked
      exact (sameTable_raise _ _ _).linked ((flagBound_sameLinks linked' _).linked linked')
  · exact linked

/-! ## Shots -/

theorem reject_sameLinks {s : State} {i : Fin Config.slots} (live : (s.slot i).state ≠ .free) (station : Nat)
    (sector : Fin Config.sectors) : SameTableLinks s (s.reject i station sector) :=
  modSlot_sameLinks (sameLinks_live live (by rw [rejectShot_eq]))

theorem accept_sameLinks {s : State} {i : Fin Config.slots} (live : (s.slot i).state ≠ .free) (station : Nat)
    (sector : Fin Config.sectors) (thickness : Nat) : SameTableLinks s (s.accept i station sector thickness) :=
  modSlot_sameLinks (sameLinks_live live (by rw [acceptShot_eq]))

theorem countHead_sameTable (s : State) (h : Fin Config.heads) (c : HeadCounter) : SameTable s (s.countHead h c) :=
  sameTable_setHead s h _

theorem convert_sameLinks {s : State} {i : Fin Config.slots} (live : (s.slot i).state ≠ .free) (h : Fin Config.heads)
    (rep : Report) (station : Nat) (sector : Fin Config.sectors) (cls : ShotClass) :
    SameTableLinks s (s.convert h rep i station sector cls) := by
  have taken : SameTableLinks s (s.modSlot i fun r => r.tempTaken (s.material (s.slot i).shell.grade).read rep) :=
    modSlot_sameLinks (sameLinks_live live (by rw [tempTaken_eq]))
  have live' := (taken.records i).state ▸ live
  simp only [State.convert]
  split
  · have counted := taken.trans (countHead_sameTable _ h .window).links
    exact counted.trans (reject_sameLinks ((counted.records i).state ▸ live) _ _)
  · split
    · exact taken.trans (reject_sameLinks live' _ _)
    · exact taken.trans (accept_sameLinks live' _ _ _)

theorem classify_sameLinks {s : State} {i : Fin Config.slots} (live : (s.slot i).state ≠ .free) (h : Fin Config.heads)
    (rep : Report) (station : Nat) (sector : Fin Config.sectors) :
    SameTableLinks s (s.classify h rep i station sector) := by
  simp only [State.classify]
  split
  · exact (countHead_sameTable s h _).links.trans (reject_sameLinks (s := s.countHead h _) live _ _)
  · exact (countHead_sameTable s h _).links.trans (convert_sameLinks (s := s.countHead h _) live h rep _ _ _)

theorem place_linked {s : State} (linked : TableLinked s) (h : Fin Config.heads) (rep : Report) (i : Fin Config.slots)
    (generation : Byte) (station : Nat) (sector : Fin Config.sectors) :
    TableLinked (s.place h rep i generation station sector) := by
  simp only [State.place]
  split
  · exact (countHead_sameTable s h _).linked linked
  · rename_i matching
    have underWay : (s.slot i).underWay = true := by
      simp only [Record.orphans, Bool.or_eq_true, Bool.not_eq_true', not_or, Bool.not_eq_false] at matching
      exact matching.1
    have live := underWay_live underWay
    split
    · exact ((countHead_sameTable s h .beyond).links.trans (flag_sameLinks (s := s.countHead h _) live _)).linked linked
    · split
      · split
        · exact ((countHead_sameTable s h .late).links.trans
            (modSlot_sameLinks (s := s.countHead h _) (f := fun r => { r with late := countUp r.late }) (sameLinks_live live rfl))).linked linked
        · exact (classify_sameLinks live h rep _ _).linked linked
      · have filled := allocStrips_fillKeeps linked live (underWay_uncompleted linked underWay)
          (station + 1 - (s.slot i).strips.length)
        have live' := filled.record.state ▸ live
        split
        · exact (classify_sameLinks live' h rep _ _).linked filled.linked
        · exact ((countHead_sameTable _ h .pool).links.trans (poolShort_sameLinks live')).linked filled.linked

theorem takeReport_sameTable (s : State) (h : Fin Config.heads) (rest : List Report) :
    SameTable s (s.takeReport h rest) := ⟨rfl, rfl, rfl, rfl, rfl, rfl, rfl, rfl, rfl⟩

theorem shotService_linked {s : State} (linked : TableLinked s) : TableLinked s.shotService := by
  unfold State.shotService
  split
  · exact linked
  · rename_i h _
    split
    · exact linked
    · rename_i rep rest _
      have taken := (takeReport_sameTable s h rest).linked linked
      split
      · exact (countHead_sameTable _ h _).linked taken
      · exact place_linked taken h rep _ _ _ _

/-! ## Every step -/

theorem exec_linked (i : Instr) (s t : State) (linked : TableLinked s) (next : exec i s = .next t) : TableLinked t := by
  have safe := linked_requestSafe
  by_cases touches : touchesTable i = false
  · exact (exec_sameTable touches next).linked linked
  · cases i with
    | arm h id f => exact answering_keeps safe (arm_linked id f) linked next
    | disarm h ref => exact answering_keeps safe (withRecord_keeps disarm_linked) linked next
    | amend h ref f => exact answering_keeps safe (withRecord_keeps (amend_linked f)) linked next
    | materialWrite h entry f => exact answering_keeps safe (materialWrite_linked entry f) linked next
    | materialClear h entry => exact answering_keeps safe (materialClear_linked entry) linked next
    | rejudge h ref => exact answering_keeps safe (withRecord_keeps fun i u _ => rejudge_linked i u) linked next
    | claim h ref => exact answering_keeps safe (withRecord_keeps (claim_linked h.source)) linked next
    | release h ref => exact answering_keeps safe (withRecord_keeps (release_linked h.source)) linked next
    | retireNow h ref octet => exact answering_keeps safe (withRecord_keeps (retire_linked (nowOption octet))) linked next
    | retireDeferred h ref => exact answering_keeps safe (withRecord_keeps (retire_linked .deferred)) linked next
    | retireForce h ref => exact answering_keeps safe (withRecord_keeps (retire_linked .force)) linked next
    | restart h => exact answering_keeps safe (fun u _ => restart_linked u) linked next
    | litEdge => exact litEdge_linked linked next
    | darkEdge => exact darkEdge_linked linked next
    | advancePulse => exact Host.Outcome.next.inj next ▸ advancePulse_linked linked
    | stall =>
      obtain rfl := Host.Outcome.next.inj next
      split
      · exact stallAll_linked linked
      · exact linked
    | spinTimeout => exact spinTimeout_linked linked next
    | silenceTimeout port => exact silenceTimeout_linked linked next
    | shotService => exact Host.Outcome.next.inj next ▸ shotService_linked linked
    | rejudgeStep => exact Host.Outcome.next.inj next ▸ rejudgeStep_linked linked
    | powerOn straps => exact Host.Outcome.next.inj next ▸ applySupply_linked s straps
    | _ => exact absurd rfl touches

/-- Settles O56: each command changes the records at a few slots, and the links stand there and at every other slot. -/
theorem stepKeepsTableLinked : Obligations.StepKeepsTableLinked := by
  intro s t linked next
  exact step_keeps (fun u rest => (sameTable_pending u rest).linked) (fun u b rest => (sameTable_ringBit u b rest).linked)
    exec_linked linked next

end Sys2Proof.Proofs

/-! SUPPORT. Every step keeps the strips of the pool at 4,096 in all, and FREE records without strips. -/

namespace Sys2Proof.Proofs

open Sys2Proof.Machine Sys2Proof.Laws

/-! ## Changes that the pool does not see -/

/-- As many free strips and as many strips of each record, and no record becomes FREE. -/
structure SamePool (s t : State) : Prop where
  freeStrips : t.freeStrips = s.freeStrips
  strips : ∀ i, (t.slot i).strips.length = (s.slot i).strips.length
  free : ∀ i, (t.slot i).state = .free → (s.slot i).state = .free

theorem SamePool.refl (s : State) : SamePool s s := ⟨rfl, fun _ => rfl, fun _ free => free⟩

theorem SamePool.trans {s t u : State} (first : SamePool s t) (second : SamePool t u) : SamePool s u where
  freeStrips := second.freeStrips.trans first.freeStrips
  strips i := (second.strips i).trans (first.strips i)
  free i free := first.free i (second.free i free)

theorem heldStrips_eq_sum (s : State) : s.heldStrips = ∑ i, (s.slot i).strips.length :=
  sum_slotOrder fun i => (s.slot i).strips.length

theorem SamePool.conserved {s t : State} (same : SamePool s t) (pool : PoolConserved s) : PoolConserved t where
  total := by
    have total := pool.total
    rw [heldStrips_eq_sum] at total ⊢
    rw [same.freeStrips, Finset.sum_congr rfl fun i _ => same.strips i]
    exact total
  free i free := by
    have none := pool.free i (same.free i free)
    exact List.eq_nil_of_length_eq_zero (by rw [same.strips, none]; rfl)

theorem SameTable.pool {s t : State} (same : SameTable s t) : SamePool s t where
  freeStrips := same.freeStrips
  strips i := by rw [same.slot]
  free i := by rw [same.slot]; exact id

theorem samePool_of_slots {s t : State} (slots : t.slots = s.slots) (freeStrips : t.freeStrips = s.freeStrips) :
    SamePool s t :=
  ⟨freeStrips, fun i => by simp [State.slot, slots], fun i => by simp [State.slot, slots]⟩

theorem samePool_setTracker (s : State) (t : Tracker) : SamePool s (s.setTracker t) := samePool_of_slots rfl rfl

theorem samePool_modSlot {s : State} {i : Fin Config.slots} {f : Record → Record}
    (strips : (f (s.slot i)).strips.length = (s.slot i).strips.length)
    (free : (f (s.slot i)).state = .free → (s.slot i).state = .free) : SamePool s (s.modSlot i f) where
  freeStrips := rfl
  strips j := by
    by_cases at_i : i = j
    · subst at_i
      rw [modSlot_slot_same]
      exact strips
    · rw [modSlot_slot_other _ _ _ _ at_i]
  free j := by
    by_cases at_i : i = j
    · subst at_i
      rw [modSlot_slot_same]
      exact free
    · rw [modSlot_slot_other _ _ _ _ at_i]
      exact id

theorem SameShell.pool {s : State} {i : Fin Config.slots} {f : Record → Record}
    (same : SameShell (s.slot i) (f (s.slot i))) : SamePool s (s.modSlot i f) :=
  samePool_modSlot same.strips (same.state ▸ id)

/-! ## Freeing, taking and placing -/

/-- The strips of all records after a change at one slot. -/
theorem heldStrips_update {s t : State} {i : Fin Config.slots} (others : ∀ j, j ≠ i → t.slot j = s.slot j) :
    t.heldStrips + (s.slot i).strips.length = s.heldStrips + (t.slot i).strips.length := by
  rw [heldStrips_eq_sum, heldStrips_eq_sum]
  exact sum_update (f := fun j => (s.slot j).strips.length) (f' := fun j => (t.slot j).strips.length)
    fun j apart => by rw [others j apart]

/-- Freeing a record returns its strips. -/
theorem freeRecord_pool {s : State} (pool : PoolConserved s) (i : Fin Config.slots) :
    PoolConserved (s.freeRecord i) where
  total := by
    have moved := heldStrips_update (s := s) (t := s.freeRecord i) (i := i)
      fun j apart => freeRecord_slot_other _ _ _ (Ne.symm apart)
    have total := pool.total
    have none : ((s.freeRecord i).slot i).strips.length = 0 := by rw [freeRecord_slot_same]; rfl
    rw [freeRecord_freeStrips]
    omega
  free j := by
    by_cases at_i : i = j
    · subst at_i
      rw [freeRecord_slot_same]
      exact fun _ => rfl
    · rw [freeRecord_slot_other _ _ _ at_i]
      exact pool.free j

theorem evict_pool (s t : State) (pool : PoolConserved s) (evicted : s.evict = some t) : PoolConserved t := by
  obtain ⟨i, -, -, -, rfl⟩ := evict_some evicted
  exact (sameTable_raise _ _ _).pool.conserved (freeRecord_pool pool i)

/-- A strip taken for a live record leaves the pool whole. -/
theorem takeStrip_pool {i : Fin Config.slots} (s : State) (live : (s.slot i).state ≠ .free) (pool : PoolConserved s)
    (some : s.freeStrips ≠ 0) : PoolConserved (s.takeStrip i) where
  total := by
    have moved := heldStrips_update (s := s) (t := s.takeStrip i) (i := i)
      fun j apart => setSlot_slot_other _ _ _ _ (Ne.symm apart)
    have total := pool.total
    have more : ((s.takeStrip i).slot i).strips.length = (s.slot i).strips.length + 1 := by
      rw [takeStrip_slot_same]
      simp
    rw [takeStrip_freeStrips]
    omega
  free j := by
    by_cases at_i : i = j
    · subst at_i
      rw [takeStrip_slot_same]
      exact fun free => absurd free live
    · rw [State.takeStrip, modSlot_slot_other _ _ _ _ at_i]
      exact pool.free j

/-- A new record without strips in a FREE slot leaves the pool whole. -/
theorem pool_of_placed {s t : State} {i : Fin Config.slots} (pool : PoolConserved s) (free : (s.slot i).state = .free)
    (freeStrips : t.freeStrips = s.freeStrips) (others : ∀ j, j ≠ i → t.slot j = s.slot j)
    (strips : (t.slot i).strips = []) : PoolConserved t := by
  refine SamePool.conserved ⟨freeStrips, fun j => ?_, fun j is => ?_⟩ pool
  · by_cases at_i : j = i
    · rw [at_i, strips, pool.free i free]
    · rw [others j at_i]
  · by_cases at_i : j = i
    · exact at_i ▸ free
    · exact others j at_i ▸ is

theorem arm_pool (id : Word) (f : ShellFields) (s : State) (pool : PoolConserved s) :
    PoolConserved (arm id f s).1 := by
  unfold arm
  split
  · exact pool
  · dsimp only
    split
    · exact pool
    · split
      · exact pool
      · split
        · exact pool
        · split
          · exact pool
          · rename_i i t taken
            refine pool_of_placed (allocSlot_keeps evict_pool pool taken) (allocSlot_free taken) rfl
              (fun j apart => placeArmed_slot_other t id _ (Ne.symm apart)) ?_
            rw [placeArmed_slot_same]
            rfl

/-! ## Commands on records -/

theorem amend_pool (f : AmendFields) (i : Fin Config.slots) (s : State) (pool : PoolConserved s) :
    PoolConserved (amend f i s).1 := by
  unfold amend
  split
  · exact pool
  · split
    · exact pool
    · split
      · exact pool
      · have moved : SamePool s (s.moveRef (s.slot i).shell.grade (AmendFields.newGrade f (s.slot i).shell.grade)) :=
          ⟨by rw [moveRef_eq], fun j => by rw [moveRef_slot], fun j => by rw [moveRef_slot]; exact id⟩
        refine (moved.trans (samePool_modSlot (f := fun r => r.amended f) ?_ ?_)).conserved pool
        · rw [amended_eq]
        · rw [amended_eq]
          exact id

theorem retire_pool (option : RetireOption) (i : Fin Config.slots) (s : State) (pool : PoolConserved s) :
    PoolConserved (retire option i s).1 := by
  unfold retire
  dsimp only
  split
  · exact pool
  · split
    · exact freeRecord_pool pool i
    · split
      · exact pool
      · split
        · exact pool
        · split
          · exact freeRecord_pool pool i
          · split
            · exact pool
            · exact (samePool_modSlot (f := fun r => { r with retirePending := true }) rfl id).conserved pool

theorem claim_pool (source : Byte) (i : Fin Config.slots) (s : State) (pool : PoolConserved s) :
    PoolConserved (claim source i s).1 := by
  unfold claim
  dsimp only
  split
  · exact pool
  · split
    · exact pool
    · split
      · exact pool
      · exact (samePool_modSlot (f := fun r => { r with claims := r.claims ++ [source] }) rfl id).conserved pool

theorem release_pool (source : Byte) (i : Fin Config.slots) (s : State) (pool : PoolConserved s) :
    PoolConserved (release source i s).1 := by
  unfold release
  dsimp only
  split
  · exact pool
  · split
    · exact freeRecord_pool pool i
    · exact (samePool_modSlot (f := fun r => { r with claims := r.without source }) rfl id).conserved pool

theorem disarm_pool (i : Fin Config.slots) (s : State) (pool : PoolConserved s) : PoolConserved (disarm i s).1 := by
  unfold disarm
  split
  · exact freeRecord_pool pool i
  · exact pool

theorem samePool_setMaterial (s : State) (g : Fin Config.materials) (m : Material) : SamePool s (s.setMaterial g m) :=
  ⟨rfl, fun _ => rfl, fun _ => id⟩

theorem materialWrite_pool (entry : Byte) (f : MaterialValues) (s : State) (pool : PoolConserved s) :
    PoolConserved (materialWrite entry f s).1 := by
  unfold materialWrite
  split
  · exact pool
  · split
    · exact pool
    · split
      · exact pool
      · exact (samePool_setMaterial s _ _).conserved pool

theorem materialClear_pool (entry : Byte) (s : State) (pool : PoolConserved s) :
    PoolConserved (materialClear entry s).1 := by
  unfold materialClear
  split
  · exact pool
  · split
    · exact pool
    · exact (samePool_setMaterial s _ _).conserved pool

/-! ## Rejudging -/

theorem endRejudge_pool (s : State) (run : RejudgeRun) : SamePool s (s.endRejudge run) := by
  refine (samePool_modSlot (i := run.slot) (f := fun r =>
    { (if r.state = .complete then r.giveVerdict run.copy else r) with rejudging := false }) ?_ ?_).trans
    (samePool_of_slots rfl rfl)
  · simp only
    split <;> simp
  · simp only
    split <;> simp

theorem rejudge_pool (i : Fin Config.slots) (s : State) (pool : PoolConserved s) : PoolConserved (rejudge i s).1 := by
  unfold rejudge
  split
  · exact pool
  · split
    · exact pool
    · split
      · exact pool
      · simp only [State.startRejudge]
        have started : SamePool s ({ s with
            engine := some { slot := i, copy := s.limit (s.slot i).shell.limitSet, reached := 0 } }.modSlot i
            fun r => { r with rejudging := true, derived := 0, zones := [] }) :=
          (samePool_of_slots rfl rfl : SamePool s { s with engine := some _ }).trans (samePool_modSlot rfl id)
        split
        · exact (started.trans (endRejudge_pool _ _)).conserved pool
        · exact started.conserved pool

theorem rejudgeStep_pool (s : State) : SamePool s s.rejudgeStep := by
  unfold State.rejudgeStep
  split
  · exact .refl s
  · rename_i run _
    split
    · exact (samePool_of_slots rfl rfl : SamePool s { s with engine := some _ }).trans
        (sameShell_rejudgeStrip _ run.copy run.reached).pool
    · exact endRejudge_pool s run

/-! ## Completions -/

theorem poolShort_pool (s : State) (i : Fin Config.slots) : SamePool s (s.poolShort i) := by
  have flagged : SamePool s (s.modSlot i fun r => r.flag .poolShort) := (sameShell_flag _ _).pool
  unfold State.poolShort
  dsimp only
  split
  · exact flagged
  · exact flagged.trans (sameTable_raise _ _ _).pool

theorem voidRecord_pool (s : State) (i : Fin Config.slots) : SamePool s (s.voidRecord i) :=
  (samePool_modSlot (f := fun r => { r with state := .void, verdict := .incomplete }) rfl (by simp)).trans
    (sameTable_raise _ _ _).pool

theorem finishRecord_pool (s : State) (i : Fin Config.slots) : SamePool s (s.finishRecord i) :=
  (samePool_modSlot (f := fun r => { r.giveVerdict (s.limit r.shell.limitSet) with state := .complete }) (by simp)
    (by simp)).trans (sameTable_raise _ _ _).pool

theorem closeAll_pool (s : State) (i : Fin Config.slots) : SamePool s (s.closeAll i) :=
  (sameShell_closeStrips _ _ _).pool

/-- A completion of a record under way leaves the pool whole: its strips come from the free ones. -/
theorem completeRecord_pool {s : State} {i : Fin Config.slots} (linked : TableLinked s)
    (underWay : (s.slot i).underWay = true) (pool : PoolConserved s) : PoolConserved (s.completeRecord i) := by
  have live := underWay_live underWay
  have truncated := modSlot_sameShell (f := Record.truncateAt) live (sameShell_truncateAt _)
  have filled : PoolConserved (s.fillStrips i).1 :=
    (allocStrips_linked_keeps (truncated.linked linked) ((truncated.records i).state ▸ live)
      (underWay_uncompleted linked underWay) evict_pool takeStrip_pool
      ((sameShell_truncateAt _).pool.conserved pool) _).2
  have short : SamePool (s.fillStrips i).1
      (if (s.fillStrips i).2 then (s.fillStrips i).1 else (s.fillStrips i).1.poolShort i) := by
    split
    · exact .refl _
    · exact poolShort_pool _ i
  simp only [State.completeRecord]
  generalize (if (s.fillStrips i).2 then (s.fillStrips i).1 else (s.fillStrips i).1.poolShort i) = s1 at short
  have closed := (short.trans (closeAll_pool s1 i)).conserved filled
  have ended : ∀ u : State, PoolConserved u →
      PoolConserved ((u.appendCompletion i).setTracker ((u.appendCompletion i).tracker.endContext i)) :=
    fun u whole => (samePool_of_slots (s := u) (t := (u.appendCompletion i).setTracker _) rfl rfl).conserved whole
  refine ended _ ?_
  split
  · exact (voidRecord_pool _ i).conserved closed
  · exact (finishRecord_pool _ i).conserved closed

theorem advancePulse_pool {s : State} (linked : TableLinked s) (pool : PoolConserved s) :
    PoolConserved s.advancePulse := by
  refine (advancePulse_keeps linked ((samePool_setTracker s _).conserved pool)
    fun u c kept mem whole => ?_).2
  have underWay := context_underWay kept mem
  have behind := closeBehind_sameLinks (underWay_live underWay) (u.rearDistance c)
  have closed : PoolConserved (u.closeBehind c.slot (u.rearDistance c)) :=
    (sameShell_closeStrips _ _ _).pool.conserved whole
  simp only [State.advanceContext]
  split
  · exact completeRecord_pool (behind.linked kept) (by rw [(behind.records c.slot).underWay]; exact underWay) closed
  · exact closed

theorem stallAll_pool (s : State) : SamePool s s.stallAll := by
  have one : ∀ (u : State) (c : Context), SamePool u (u.stallRecord c) := fun u c =>
    ((((sameShell_flag _ _).pool : SamePool u (u.modSlot c.slot fun r => r.flag .stalled)).trans
      (closeAll_pool _ _)).trans (voidRecord_pool _ _)).trans (samePool_of_slots rfl rfl)
  have each : ∀ (cs : List Context) (u : State), SamePool u (cs.foldl State.stallRecord u) := by
    intro cs
    induction cs with
    | nil => exact .refl
    | cons c rest ih => exact fun u => (one u c).trans (ih _)
  exact (each s.tracker.contexts s).trans (samePool_of_slots rfl rfl)

/-! ## Arrivals and departures -/

theorem makeRoom_pool {s : State} (linked : TableLinked s) (pool : PoolConserved s) : PoolConserved s.makeRoom := by
  unfold State.makeRoom
  split
  · rename_i older newer rest is
    have underWay := context_underWay linked (c := older) (by simp [is])
    have flagged := flag_sameLinks (underWay_live underWay) .cutShort
    exact completeRecord_pool (flagged.linked linked) (by rw [(flagged.records _).underWay]; exact underWay)
      ((sameShell_flag _ _).pool.conserved pool)
  · exact pool

theorem seekRecord_pool {s : State} (pool : PoolConserved s) : PoolConserved s.seekRecord.1 := by
  have unrecorded := (sameTable_raise s .unrecorded .none).pool.conserved pool
  unfold State.seekRecord
  split
  · rename_i i rest _
    exact ((samePool_of_slots rfl rfl : SamePool s { s with armQueue := rest }).trans
      (samePool_modSlot (f := fun r => { r with state := .measuring }) rfl (by simp))).conserved pool
  · split
    · split
      · rename_i i t taken
        refine pool_of_placed (allocSlot_keeps evict_pool pool taken) (allocSlot_free taken) rfl
          (fun j apart => placeAnonymous_slot_other t (Ne.symm apart)) ?_
        rw [placeAnonymous_slot_same]
        rfl
      · exact unrecorded
    · exact unrecorded

theorem litEdge_pool {s t : State} (linked : TableLinked s) (pool : PoolConserved s)
    (next : execLitEdge s = .next t) : PoolConserved t := by
  obtain rfl := Host.Outcome.next.inj next
  split
  · have whole : PoolConserved (s.setTracker (s.tracker.takeEdge .lit)) :=
      (samePool_setTracker s _).conserved pool
    exact (samePool_setTracker _ _).conserved (seekRecord_pool (makeRoom_pool (takeEdge_linked linked) whole))
  · exact pool

theorem darkEdge_pool {s t : State} (pool : PoolConserved s) (next : execDarkEdge s = .next t) : PoolConserved t := by
  obtain rfl := Host.Outcome.next.inj next
  split
  · unfold State.departure
    split
    · rename_i c _
      have finished : ∀ (u : State) length, SamePool u (u.modSlot c.slot fun r => { r with state := .finishing, length }) :=
        fun u _ => samePool_modSlot rfl (by simp)
      exact (((samePool_setTracker s _).trans (samePool_setTracker _ _)).trans (finished _ _)).conserved pool
    · exact ((samePool_setTracker s _).trans (samePool_setTracker _ _)).conserved pool
  · exact pool

/-! ## Flags and shots -/

theorem flagBound_pool (s : State) (k : HistoryFlag) : SamePool s (s.flagBound k) := by
  unfold State.flagBound
  generalize s.tracker.contexts = cs
  induction cs generalizing s with
  | nil => exact .refl s
  | cons c rest ih => exact (sameShell_flag _ k).pool.trans (ih _)

theorem spinTimeout_pool {s t : State} (next : execSpinTimeout s = .next t) : SamePool s t := by
  obtain rfl := Host.Outcome.next.inj next
  split
  · have lost : SamePool s (s.setTracker { s.tracker with spin := .unsynced, spinTimer := .stopped }) :=
      samePool_setTracker s _
    simp only [State.loseSpin]
    split
    · exact lost
    · exact (lost.trans (flagBound_pool _ _)).trans (sameTable_raise _ _ _).pool
  · exact .refl s

theorem silenceTimeout_pool {s t : State} {h : Fin Config.heads} (next : execSilenceTimeout h s = .next t) :
    SamePool s t := by
  obtain rfl := Host.Outcome.next.inj next
  split
  · unfold State.fallSilent
    split
    · exact (sameTable_setHead s h _).pool
    · exact ((sameTable_setHead s h _).pool.trans (flagBound_pool _ _)).trans (sameTable_raise _ _ _).pool
  · exact .refl s

theorem reject_pool (s : State) (i : Fin Config.slots) (station : Nat) (sector : Fin Config.sectors) :
    SamePool s (s.reject i station sector) :=
  samePool_modSlot (by simp) (by rw [rejectShot_eq]; exact id)

theorem classify_pool (s : State) (h : Fin Config.heads) (rep : Report) (i : Fin Config.slots) (station : Nat)
    (sector : Fin Config.sectors) : SamePool s (s.classify h rep i station sector) := by
  have taken : ∀ u : State, ∀ m : MaterialFields, SamePool u (u.modSlot i fun r => r.tempTaken m rep) :=
    fun u m => samePool_modSlot (by rw [tempTaken_eq]) (by rw [tempTaken_eq]; exact id)
  have counted : ∀ (u : State) c, SamePool u (u.countHead h c) := fun u c => (countHead_sameTable u h c).pool
  simp only [State.classify]
  split
  · exact (counted s _).trans (reject_pool _ _ _ _)
  · simp only [State.convert]
    split
    · exact (((counted s _).trans (taken _ _)).trans (counted _ _)).trans (reject_pool _ _ _ _)
    · split
      · exact ((counted s _).trans (taken _ _)).trans (reject_pool _ _ _ _)
      · exact ((counted s _).trans (taken _ _)).trans (samePool_modSlot (by simp) (by rw [acceptShot_eq]; exact id))

theorem place_pool {s : State} (linked : TableLinked s) (pool : PoolConserved s) (h : Fin Config.heads) (rep : Report)
    (i : Fin Config.slots) (generation : Byte) (station : Nat) (sector : Fin Config.sectors) :
    PoolConserved (s.place h rep i generation station sector) := by
  simp only [State.place]
  split
  · exact (countHead_sameTable s h _).pool.conserved pool
  · rename_i matching
    have underWay : (s.slot i).underWay = true := by
      simp only [Record.orphans, Bool.or_eq_true, Bool.not_eq_true', not_or, Bool.not_eq_false] at matching
      exact matching.1
    split
    · exact ((countHead_sameTable s h _).pool.trans (sameShell_flag _ _).pool).conserved pool
    · split
      · split
        · exact ((countHead_sameTable s h _).pool.trans
            (samePool_modSlot (f := fun r => { r with late := countUp r.late }) rfl id)).conserved pool
        · exact (classify_pool s h rep i _ _).conserved pool
      · have filled := (allocStrips_linked_keeps linked (underWay_live underWay) (underWay_uncompleted linked underWay)
          evict_pool takeStrip_pool pool (station + 1 - (s.slot i).strips.length)).2
        split
        · exact (classify_pool _ h rep i _ _).conserved filled
        · exact ((countHead_sameTable _ h _).pool.trans (poolShort_pool _ i)).conserved filled

theorem shotService_pool {s : State} (linked : TableLinked s) (pool : PoolConserved s) :
    PoolConserved s.shotService := by
  unfold State.shotService
  split
  · exact pool
  · rename_i h _
    split
    · exact pool
    · rename_i rep rest _
      have taken := takeReport_sameTable s h rest
      split
      · exact (taken.pool.trans (countHead_sameTable _ h _).pool).conserved pool
      · exact place_pool (taken.linked linked) (taken.pool.conserved pool) h rep _ _ _ _

/-! ## Every step -/

/-- With 4,096 free strips and FREE records alone, the pool is whole. -/
theorem pool_of_empty {s : State} (slots : ∀ i, s.slot i = Record.free 0) (free : s.freeStrips = Config.poolStrips) :
    PoolConserved s where
  total := by
    rw [heldStrips_eq_sum]
    simp [slots, Record.free, free]
  free i _ := by rw [slots]; rfl

theorem pool_requestSafe : RequestSafe PoolConserved where
  frame s := (sameTable_setRing s _).pool.conserved
  count s _ := (sameTable_setRing s _).pool.conserved
  shed s := (sameTable_raise s _ _).pool.conserved
  enqueue s h code a := (sameTable_enqueue s h code a).pool.conserved

theorem exec_pool {i : Instr} {s t : State} (linked : TableLinked s) (pool : PoolConserved s)
    (next : exec i s = .next t) : PoolConserved t := by
  have safe := pool_requestSafe
  by_cases touches : touchesTable i = false
  · exact (exec_sameTable touches next).pool.conserved pool
  · cases i with
    | arm h id f => exact answering_keeps safe (arm_pool id f) pool next
    | disarm h ref => exact answering_keeps safe (withRecord_keeps fun i u _ => disarm_pool i u) pool next
    | amend h ref f => exact answering_keeps safe (withRecord_keeps fun i u _ => amend_pool f i u) pool next
    | materialWrite h entry f => exact answering_keeps safe (materialWrite_pool entry f) pool next
    | materialClear h entry => exact answering_keeps safe (materialClear_pool entry) pool next
    | rejudge h ref => exact answering_keeps safe (withRecord_keeps fun i u _ => rejudge_pool i u) pool next
    | claim h ref => exact answering_keeps safe (withRecord_keeps fun i u _ => claim_pool h.source i u) pool next
    | release h ref => exact answering_keeps safe (withRecord_keeps fun i u _ => release_pool h.source i u) pool next
    | retireNow h ref octet =>
      exact answering_keeps safe (withRecord_keeps fun i u _ => retire_pool (nowOption octet) i u) pool next
    | retireDeferred h ref => exact answering_keeps safe (withRecord_keeps fun i u _ => retire_pool .deferred i u) pool next
    | retireForce h ref => exact answering_keeps safe (withRecord_keeps fun i u _ => retire_pool .force i u) pool next
    | restart h =>
      exact answering_keeps safe (fun u _ => pool_of_empty (s := u.restart) (by simp [State.slot, State.restart]) rfl) pool next
    | litEdge => exact litEdge_pool linked pool next
    | darkEdge => exact darkEdge_pool pool next
    | advancePulse => exact Host.Outcome.next.inj next ▸ advancePulse_pool linked pool
    | stall =>
      obtain rfl := Host.Outcome.next.inj next
      split
      · exact (stallAll_pool s).conserved pool
      · exact pool
    | spinTimeout => exact (spinTimeout_pool next).conserved pool
    | silenceTimeout port => exact (silenceTimeout_pool next).conserved pool
    | shotService => exact Host.Outcome.next.inj next ▸ shotService_pool linked pool
    | rejudgeStep => exact Host.Outcome.next.inj next ▸ (rejudgeStep_pool s).conserved pool
    | powerOn straps =>
      exact Host.Outcome.next.inj next ▸
        pool_of_empty (s := s.applySupply straps) (by simp [State.slot, State.applySupply, State.powerOn]) rfl
    | _ => exact absurd rfl touches

/-- Settles O54: strips move between the pool and live records alone; the links of the shell table keep an eviction from freeing the record that is being filled. -/
theorem stepKeepsPoolWhole : Obligations.StepKeepsPoolWhole := by
  intro s t linked pool next
  have both := step_keeps (P := fun u => TableLinked u ∧ PoolConserved u)
    (fun u rest ⟨kept, whole⟩ =>
      ⟨(sameTable_pending u rest).linked kept, (sameTable_pending u rest).pool.conserved whole⟩)
    (fun u b rest ⟨kept, whole⟩ =>
      ⟨(sameTable_ringBit u b rest).linked kept, (sameTable_ringBit u b rest).pool.conserved whole⟩)
    (fun i u v ⟨kept, whole⟩ ran => ⟨exec_linked i u v kept ran, exec_pool kept whole ran⟩) ⟨linked, pool⟩ next
  exact both.2

end Sys2Proof.Proofs

/-! SUPPORT. Every step keeps the bounds of queues, lists and counters. -/

namespace Sys2Proof.Proofs

open Sys2Proof.Machine Sys2Proof.Laws

/-! ## Counters -/

theorem countBy_le (n c : Nat) : countBy n c ≤ Config.counterTop := Nat.min_le_left _ _
theorem countUp_le (c : Nat) : countUp c ≤ Config.counterTop := countBy_le 1 c

/-- A table of counters with one of them counted stays within the bound. -/
theorem counters_set_le {n : Nat} {counters : Vector Nat n} (bounded : ∀ c : Fin n, counters[c] ≤ Config.counterTop)
    (k : Fin n) (m : Nat) (c : Fin n) : (counters.set k (countBy m counters[k]))[c] ≤ Config.counterTop := by
  simp only [Fin.getElem_fin, Vector.getElem_set]
  split
  · exact countBy_le _ _
  · exact bounded c

/-! ## Records -/

theorem absorb_length : ∀ (before : List Zone) (z : Zone), (absorb before z).length ≤ before.length + 1
  | [], _ => Nat.le_refl _
  | p :: before, z => by
    unfold absorb
    split
    · exact (absorb_length before _).trans (Nat.le_succ _)
    · exact Nat.le_refl _

/-- A candidate never takes a zone list past its places. -/
theorem takeCandidate_length {zones : List Zone} (few : zones.length ≤ Config.maxZones) (c : Zone) :
    (takeCandidate zones c).1.length ≤ Config.maxZones := by
  have reversed := zones.length_reverse
  unfold takeCandidate
  split
  · exact Nat.le_of_ble_eq_true rfl
  · rename_i z before is
    rw [is, List.length_cons] at reversed
    have merged : (absorb before (z.merge c)).reverse.length ≤ Config.maxZones := by
      rw [List.length_reverse]
      exact (absorb_length _ _).trans (reversed ▸ few)
    split
    · exact merged
    · split
      · exact merged
      · rw [List.length_append]
        exact Nat.succ_le_of_lt (Nat.lt_of_not_le (by assumption))

theorem offer_zones {r : Record} (few : r.zones.length ≤ Config.maxZones) (c : Zone) :
    (r.offer c).zones.length ≤ Config.maxZones := by
  unfold Record.offer
  dsimp only
  split <;> exact takeCandidate_length few c

theorem judgeStrip_zones {r : Record} (few : r.zones.length ≤ Config.maxZones) (l : LimitSet) (station : Nat)
    (st : Strip) : (r.judgeStrip l station st).zones.length ≤ Config.maxZones := by
  unfold Record.judgeStrip
  dsimp only
  split
  · exact few
  · split
    · exact few
    · have judged : ∀ d ss c, (Record.offer { r with strips := ss, derived := d } c).zones.length ≤ Config.maxZones :=
        fun d ss _ => offer_zones (r := { r with strips := ss, derived := d }) few _
      exact judged _ _ _

theorem closeStrip_zones {r : Record} (few : r.zones.length ≤ Config.maxZones) (l : LimitSet) (station : Nat) :
    (r.closeStrip l station).zones.length ≤ Config.maxZones := by
  unfold Record.closeStrip
  split
  · split
    · exact judgeStrip_zones few _ _ _
    · exact few
  · exact few

theorem closeStrips_zones {r : Record} (few : r.zones.length ≤ Config.maxZones) (l : LimitSet) (p : Nat → Bool) :
    (r.closeStrips l p).zones.length ≤ Config.maxZones := by
  unfold Record.closeStrips
  generalize List.range r.strips.length = ks
  induction ks generalizing r with
  | nil => exact few
  | cons k rest ih =>
    refine ih ?_
    dsimp only
    split
    · exact closeStrip_zones few l k
    · exact few

/-- Judging and closing keep the bounds that the zone list keeps. -/
theorem SameShell.bounded {r r' : Record} (same : SameShell r r') (bounded : r.Bounded)
    (zones : r'.zones.length ≤ Config.maxZones) : r'.Bounded where
  claims := same.claims ▸ bounded.claims
  distinct := same.claims ▸ bounded.distinct
  strips := same.strips ▸ bounded.strips
  zones := zones
  accepted := same.accepted ▸ bounded.accepted
  rejected := same.rejected ▸ bounded.rejected
  late := same.late ▸ bounded.late

theorem flag_bounded {r : Record} (bounded : r.Bounded) (k : HistoryFlag) : (r.flag k).Bounded :=
  (sameShell_flag r k).bounded bounded bounded.zones

theorem closeStrips_bounded {r : Record} (bounded : r.Bounded) (l : LimitSet) (p : Nat → Bool) :
    (r.closeStrips l p).Bounded :=
  (sameShell_closeStrips r l p).bounded bounded (closeStrips_zones bounded.zones l p)

theorem rejudgeStrip_bounded {r : Record} (bounded : r.Bounded) (copy : LimitSet) (station : Nat) :
    (r.rejudgeStrip copy station).Bounded := by
  refine (sameShell_rejudgeStrip r copy station).bounded bounded ?_
  unfold Record.rejudgeStrip
  split
  · exact judgeStrip_zones bounded.zones _ _ _
  · exact bounded.zones

theorem truncateAt_bounded {r : Record} (bounded : r.Bounded) : r.truncateAt.Bounded := by
  unfold Record.truncateAt
  split
  · exact flag_bounded bounded _
  · exact bounded

theorem giveVerdict_bounded {r : Record} (bounded : r.Bounded) (l : LimitSet) : (r.giveVerdict l).Bounded where
  claims := by rw [giveVerdict_claims]; exact bounded.claims
  distinct := by rw [giveVerdict_claims]; exact bounded.distinct
  strips := by rw [giveVerdict_strips]; exact bounded.strips
  zones := by
    rw [giveVerdict_zones, Record.trimmedZones, List.length_map]
    exact (List.length_filter_le ..).trans bounded.zones
  accepted := by rw [giveVerdict_accepted]; exact bounded.accepted
  rejected := by rw [giveVerdict_rejected]; exact bounded.rejected
  late := by rw [giveVerdict_late]; exact bounded.late

/-- A record without strips, zones, claims and shots is within its bounds. -/
theorem bounded_bare {r : Record} (claims : r.claims = []) (strips : r.strips = []) (zones : r.zones = [])
    (accepted : r.accepted = 0) (rejected : r.rejected = 0) (late : r.late = 0) : r.Bounded := by
  constructor <;> simp [claims, strips, zones, accepted, rejected, late]

theorem free_bounded (generation : Byte) : (Record.free generation).Bounded := bounded_bare rfl rfl rfl rfl rfl rfl

theorem made_bounded (generation : Byte) (state : LifeState) (shell : ShellSettings) (id : Option Word)
    (history : BitVec 10) : (Record.made generation state shell id history).Bounded :=
  bounded_bare rfl rfl rfl rfl rfl rfl

/-- A record that differs in none of the bounded fields is within its bounds. -/
theorem recordBounded_congr {r r' : Record} (bounded : r.Bounded) (claims : r'.claims = r.claims)
    (strips : r'.strips.length = r.strips.length) (zones : r'.zones = r.zones) (accepted : r'.accepted = r.accepted)
    (rejected : r'.rejected = r.rejected) (late : r'.late = r.late) : r'.Bounded where
  claims := claims ▸ bounded.claims
  distinct := claims ▸ bounded.distinct
  strips := strips ▸ bounded.strips
  zones := zones ▸ bounded.zones
  accepted := accepted ▸ bounded.accepted
  rejected := rejected ▸ bounded.rejected
  late := late ▸ bounded.late

theorem acceptShot_bounded {r : Record} (bounded : r.Bounded) (l : LimitSet) (station : Nat)
    (sector : Fin Config.sectors) (thickness : Nat) : (r.acceptShot l station sector thickness).Bounded := by
  refine recordBounded_congr (r := { r with accepted := countUp r.accepted })
    { bounded with accepted := countUp_le _ } ?_ (by simp) ?_ ?_ ?_ ?_ <;> rw [acceptShot_eq]

theorem rejectShot_bounded {r : Record} (bounded : r.Bounded) (station : Nat) (sector : Fin Config.sectors) :
    (r.rejectShot station sector).Bounded := by
  refine recordBounded_congr (r := { r with rejected := countUp r.rejected })
    { bounded with rejected := countUp_le _ } ?_ (by simp) ?_ ?_ ?_ ?_ <;> rw [rejectShot_eq]

theorem tempTaken_bounded {r : Record} (bounded : r.Bounded) (m : MaterialFields) (rep : Report) :
    (r.tempTaken m rep).Bounded := by
  refine recordBounded_congr bounded ?_ ?_ ?_ ?_ ?_ ?_ <;> rw [tempTaken_eq]

/-! ## Head ports -/

theorem headCount_bounded {p : HeadPort} (bounded : p.Bounded) (c : HeadCounter) (n : Nat) : (p.count c n).Bounded :=
  ⟨bounded.queue, bounded.empty, counters_set_le bounded.counters c.idx n⟩

theorem headSettle_bounded {p : HeadPort} (bounded : p.Bounded) : p.settle.Bounded :=
  ⟨bounded.queue, bounded.empty, bounded.counters⟩

/-- A port with an empty queue and bounded counters is within its bounds. -/
theorem emptied_bounded {p : HeadPort} (queue : p.queue = []) (counters : ∀ c : Fin 14, p.counters[c] ≤ Config.counterTop) :
    p.Bounded :=
  ⟨by simp [queue], fun _ => queue, counters⟩

theorem cleared_counters (c : Fin 14) : (Vector.replicate 14 0)[c] ≤ Config.counterTop := by simp

theorem checkSequence_bounded {p : HeadPort} (bounded : p.Bounded) (sequence : Byte) :
    (p.checkSequence sequence).Bounded := by
  have counted := headCount_bounded bounded .missed (p.gap sequence)
  exact ⟨counted.queue, counted.empty, counted.counters⟩

/-- A port that keeps running is not DISABLED, so that its queue is bounded by its depth alone. -/
theorem keepRunning_bounded {p : HeadPort} (queue : p.queue.length ≤ p.settings.depth)
    (counters : ∀ c : Fin 14, p.counters[c] ≤ Config.counterTop) : p.keepRunning.Bounded :=
  ⟨queue, fun disabled => absurd disabled (by simp [HeadPort.keepRunning]), counters⟩

/-! ## The ring port -/

/-- The bounds of the ring port: its reply queue (R172) and its counters (R182). -/
structure RingBounded (r : RingPort) : Prop where
  replies : r.replies.length ≤ Config.replyPlaces
  counters : ∀ c : Fin 8, r.counters[c] ≤ Config.counterTop

theorem ringCount_bounded {r : RingPort} (bounded : RingBounded r) (c : RingCounter) : RingBounded (r.count c) :=
  ⟨bounded.replies, counters_set_le bounded.counters c.idx 1⟩

theorem cut_bounded {r : RingPort} (bounded : RingBounded r) : RingBounded r.cut := by
  unfold RingPort.cut
  split
  · have cutting : ∀ permit phase bits, RingBounded { r with permit := permit, phase := phase, toDrive := bits } :=
      fun _ _ _ => ⟨bounded.replies, bounded.counters⟩
    exact ringCount_bounded (cutting _ _ _) _
  · exact bounded

theorem frame_bounded {r : RingPort} (bounded : RingBounded r) : RingBounded r.frame := by
  have cut := cut_bounded bounded
  constructor <;> simp only [RingPort.frame, cutEnd_replies, turnEnd_replies, cutEnd_counters, turnEnd_counters]
  · exact cut.replies
  · exact cut.counters

theorem idleRun_bounded {r : RingPort} (bounded : RingBounded r) : RingBounded r.idleRun := by
  simp only [RingPort.idleRun]
  split <;> exact ⟨bounded.replies, bounded.counters⟩

theorem takeTurn_bounded {r : RingPort} (bounded : RingBounded r) : RingBounded r.takeTurn := by
  simp only [RingPort.takeTurn]
  split
  · exact ⟨bounded.replies, bounded.counters⟩
  · split <;> exact ⟨bounded.replies, bounded.counters⟩

theorem goOn_bounded {r : RingPort} (bounded : RingBounded r) (effect : ReplyEffect) : RingBounded (r.goOn effect) := by
  unfold RingPort.goOn
  split
  · exact ⟨bounded.replies, bounded.counters⟩
  · split <;> exact ⟨bounded.replies, bounded.counters⟩

theorem replySent_bounded {r : RingPort} (bounded : RingBounded r) : RingBounded r.replySent := by
  unfold RingPort.replySent
  split
  · exact bounded
  · rename_i sent rest queue
    split
    · refine goOn_bounded ⟨?_, ?_⟩ _
      · have fits := bounded.replies
        rw [queue] at fits
        exact (Nat.le_succ _).trans fits
      · cases effect : sent.effect <;> exact bounded.counters
    · exact bounded

/-! ## The state -/

theorem noticeRaised_bounded (e : NoticeEntry) (subject : Subject) : (e.raised subject).count ≤ 255 := by
  simp only [NoticeEntry.raised]
  split
  · exact Nat.min_le_left _ _
  · decide

/-- A state that differs in none of the bounded parts is within its bounds. -/
theorem bounded_congr {s t : State} (bounded : Bounded s) (slots : t.slots = s.slots) (heads : t.heads = s.heads)
    (ring : t.ring = s.ring) (slips : t.tracker.slips = s.tracker.slips)
    (notices : t.notices.entries = s.notices.entries) : Bounded t where
  records i := by rw [State.slot, slots]; exact bounded.records i
  heads h := by rw [State.head, heads]; exact bounded.heads h
  replies := ring ▸ bounded.replies
  ringCounters := ring ▸ bounded.ringCounters
  slips := slips ▸ bounded.slips
  notices k := by rw [notices]; exact bounded.notices k

theorem ringBounded {s : State} (bounded : Bounded s) : RingBounded s.ring := ⟨bounded.replies, bounded.ringCounters⟩

theorem setRing_bounded {s : State} (bounded : Bounded s) {r : RingPort} (ring : RingBounded r) :
    Bounded (s.setRing r) := { bounded with replies := ring.replies, ringCounters := ring.counters }

theorem setTracker_bounded {s : State} (bounded : Bounded s) {t : Tracker} (slips : t.slips = s.tracker.slips) :
    Bounded (s.setTracker t) := bounded_congr bounded rfl rfl rfl slips rfl

theorem raise_bounded {s : State} (bounded : Bounded s) (k : NoticeKind) (subject : Subject) :
    Bounded (s.raise k subject) where
  records := bounded.records
  heads := bounded.heads
  replies := bounded.replies
  ringCounters := bounded.ringCounters
  slips := bounded.slips
  notices j := by
    rw [raise_entry]
    split
    · exact noticeRaised_bounded _ _
    · exact bounded.notices j

theorem modSlot_bounded {s : State} (bounded : Bounded s) {i : Fin Config.slots} {f : Record → Record}
    (record : (f (s.slot i)).Bounded) : Bounded (s.modSlot i f) where
  records j := by
    rw [modSlot_slot]
    split
    · exact record
    · exact bounded.records j
  heads := bounded.heads
  replies := bounded.replies
  ringCounters := bounded.ringCounters
  slips := bounded.slips
  notices := bounded.notices

theorem setHead_bounded {s : State} (bounded : Bounded s) {h : Fin Config.heads} {p : HeadPort} (port : p.Bounded) :
    Bounded (s.setHead h p) where
  records := bounded.records
  heads k := by
    rw [setHead_head]
    split
    · exact port
    · exact bounded.heads k
  replies := bounded.replies
  ringCounters := bounded.ringCounters
  slips := bounded.slips
  notices := bounded.notices

theorem countHead_bounded {s : State} (bounded : Bounded s) (h : Fin Config.heads) (c : HeadCounter) :
    Bounded (s.countHead h c) :=
  setHead_bounded bounded (headCount_bounded (bounded.heads h) c 1)

theorem setLine_bounded {s : State} (bounded : Bounded s) (h : Fin Config.heads) (line : LineRun) :
    Bounded (s.setLine h line) :=
  setHead_bounded bounded ⟨(bounded.heads h).queue, (bounded.heads h).empty, (bounded.heads h).counters⟩

theorem enqueue_bounded {s : State} (bounded : Bounded s) (h : Header) (code : Byte) (a : Answer) :
    Bounded (s.enqueue h code a) := by
  unfold State.enqueue
  split
  · rename_i room
    refine setRing_bounded bounded ⟨?_, bounded.ringCounters⟩
    rw [List.length_append]
    exact room
  · exact bounded

theorem bounded_requestSafe : RequestSafe Bounded where
  frame _ bounded := setRing_bounded bounded (frame_bounded (ringBounded bounded))
  count _ c bounded := setRing_bounded bounded (ringCount_bounded (ringBounded bounded) c)
  shed _ bounded := raise_bounded bounded _ _
  enqueue _ h code a bounded := enqueue_bounded bounded h code a

/-! ## Allocation -/

theorem freeRecord_bounded {s : State} (bounded : Bounded s) (i : Fin Config.slots) : Bounded (s.freeRecord i) where
  records j := by
    by_cases at_i : i = j
    · subst at_i
      rw [freeRecord_slot_same]
      exact free_bounded _
    · rw [freeRecord_slot_other _ _ _ at_i]
      exact bounded.records j
  heads := bounded.heads
  replies := bounded.replies
  ringCounters := bounded.ringCounters
  slips := bounded.slips
  notices := bounded.notices

theorem evict_bounded (s t : State) (bounded : Bounded s) (evicted : s.evict = some t) : Bounded t := by
  obtain ⟨i, -, -, -, rfl⟩ := evict_some evicted
  exact raise_bounded (freeRecord_bounded bounded i) _ _

/-- An eviction never lengthens a strip list. -/
theorem evict_strips_le {s t : State} (evicted : s.evict = some t) (j : Fin Config.slots) :
    (t.slot j).strips.length ≤ (s.slot j).strips.length := by
  obtain ⟨i, -, -, -, rfl⟩ := evict_some evicted
  rw [raise_slot]
  by_cases at_i : i = j
  · subst at_i
    rw [freeRecord_slot_same]
    exact Nat.zero_le _
  · rw [freeRecord_slot_other _ _ _ at_i]

/-- An allocation of strips within the bound of a record keeps the bounds. -/
theorem allocStrips_bounded (i : Fin Config.slots) (n : Nat) {s : State} (bounded : Bounded s)
    (room : (s.slot i).strips.length + n ≤ Config.maxStations) : Bounded (State.allocStrips n i s).1 := by
  induction n generalizing s with
  | zero => exact bounded
  | succ n ih =>
    obtain ⟨sought, fewer⟩ := seekStrip_keeps (s := s)
      (P := fun u => Bounded u ∧ (u.slot i).strips.length ≤ (s.slot i).strips.length)
      (fun u v ⟨kept, few⟩ evicted => ⟨evict_bounded u v kept evicted, (evict_strips_le evicted i).trans few⟩)
      ⟨bounded, Nat.le_refl _⟩
    rw [allocStrips_succ]
    split
    · exact sought
    · have more : ((s.seekStrip.takeStrip i).slot i).strips.length = (s.seekStrip.slot i).strips.length + 1 := by
        rw [takeStrip_slot_same]
        simp
      refine ih ?_ (by omega)
      have taken : Bounded { s.seekStrip with freeStrips := s.seekStrip.freeStrips - 1 } :=
        bounded_congr sought rfl rfl rfl rfl rfl
      have fits : ((s.seekStrip.slot i).strips ++ [newStrip]).length ≤ Config.maxStations := by
        rw [List.length_append]
        exact (Nat.add_le_add_right fewer 1).trans ((Nat.add_le_add_left (Nat.succ_le_succ (Nat.zero_le n)) _).trans room)
      exact modSlot_bounded taken { sought.records i with strips := fits }

/-! ## Commands of the shell table and the materials -/

theorem refUp_bounded {s : State} (bounded : Bounded s) (g : Fin Config.materials) : Bounded (s.refUp g) :=
  bounded_congr bounded rfl rfl rfl rfl rfl

theorem arm_bounded (id : Word) (f : ShellFields) (s : State) (bounded : Bounded s) : Bounded (arm id f s).1 := by
  unfold arm
  split
  · exact bounded
  · dsimp only
    split
    · exact bounded
    · split
      · exact bounded
      · split
        · exact bounded
        · split
          · exact bounded
          · rename_i i t taken
            have kept := allocSlot_keeps evict_bounded bounded taken
            have queued : Bounded { t with armQueue := t.armQueue ++ [i] } :=
              bounded_congr kept rfl rfl rfl rfl rfl
            exact refUp_bounded (modSlot_bounded queued (made_bounded _ _ _ _ _)) _

theorem disarm_bounded (i : Fin Config.slots) (s : State) (bounded : Bounded s) : Bounded (disarm i s).1 := by
  unfold disarm
  split
  · exact freeRecord_bounded bounded i
  · exact bounded

theorem amend_bounded (f : AmendFields) (i : Fin Config.slots) (s : State) (bounded : Bounded s) :
    Bounded (amend f i s).1 := by
  unfold amend
  split
  · exact bounded
  · split
    · exact bounded
    · split
      · exact bounded
      · have moved : Bounded (s.moveRef (s.slot i).shell.grade (AmendFields.newGrade f (s.slot i).shell.grade)) := by
          rw [moveRef_eq]
          exact bounded_congr bounded rfl rfl rfl rfl rfl
        refine modSlot_bounded (f := fun r => r.amended f) moved ?_
        refine recordBounded_congr (moved.records i) ?_ ?_ ?_ ?_ ?_ ?_ <;> rw [amended_eq]

theorem setMaterial_bounded {s : State} (bounded : Bounded s) (g : Fin Config.materials) (m : Material) :
    Bounded (s.setMaterial g m) :=
  bounded_congr bounded rfl rfl rfl rfl rfl

theorem materialWrite_bounded (entry : Byte) (f : MaterialValues) (s : State) (bounded : Bounded s) :
    Bounded (materialWrite entry f s).1 := by
  unfold materialWrite
  split
  · exact bounded
  · split
    · exact bounded
    · split
      · exact bounded
      · exact setMaterial_bounded bounded _ _

theorem materialClear_bounded (entry : Byte) (s : State) (bounded : Bounded s) : Bounded (materialClear entry s).1 := by
  unfold materialClear
  split
  · exact bounded
  · split
    · exact bounded
    · exact setMaterial_bounded bounded _ _

theorem claim_bounded (source : Byte) (i : Fin Config.slots) (s : State) (bounded : Bounded s) :
    Bounded (claim source i s).1 := by
  unfold claim
  dsimp only
  split
  · exact bounded
  · split
    · exact bounded
    · rename_i absent
      split
      · exact bounded
      · rename_i room
        have record := bounded.records i
        refine modSlot_bounded (f := fun r => { r with claims := r.claims ++ [source] }) bounded
          { record with claims := ?_, distinct := ?_ }
        · rw [List.length_append]
          exact Nat.succ_le_of_lt (Nat.lt_of_not_le room)
        · exact List.nodup_append.mpr
            ⟨record.distinct, by simp, by simpa using fun a mem (is : a = source) => absent (is ▸ mem)⟩

theorem release_bounded (source : Byte) (i : Fin Config.slots) (s : State) (bounded : Bounded s) :
    Bounded (release source i s).1 := by
  unfold release
  dsimp only
  split
  · exact bounded
  · split
    · exact freeRecord_bounded bounded i
    · have record := bounded.records i
      exact modSlot_bounded (f := fun r => { r with claims := r.without source }) bounded
        { record with
          claims := (List.length_filter_le ..).trans record.claims, distinct := record.distinct.filter _ }

theorem retire_bounded (option : RetireOption) (i : Fin Config.slots) (s : State) (bounded : Bounded s) :
    Bounded (retire option i s).1 := by
  unfold retire
  dsimp only
  split
  · exact bounded
  · split
    · exact freeRecord_bounded bounded i
    · split
      · exact bounded
      · split
        · exact bounded
        · split
          · exact freeRecord_bounded bounded i
          · split
            · exact bounded
            · exact modSlot_bounded (f := fun r => { r with retirePending := true }) bounded { bounded.records i with }

theorem endRejudge_bounded {s : State} (bounded : Bounded s) (run : RejudgeRun) : Bounded (s.endRejudge run) := by
  have judged : Bounded (s.modSlot run.slot fun r =>
      { (if r.state = .complete then r.giveVerdict run.copy else r) with rejudging := false }) := by
    refine modSlot_bounded bounded ?_
    simp only
    split
    · exact { giveVerdict_bounded (bounded.records run.slot) run.copy with }
    · exact { bounded.records run.slot with }
  refine raise_bounded ?_ _ _
  exact bounded_congr judged rfl rfl rfl rfl rfl

theorem rejudge_bounded (i : Fin Config.slots) (s : State) (bounded : Bounded s) : Bounded (rejudge i s).1 := by
  unfold rejudge
  split
  · exact bounded
  · split
    · exact bounded
    · split
      · exact bounded
      · have running : Bounded { s with
            engine := some { slot := i, copy := s.limit (s.slot i).shell.limitSet, reached := 0 } } :=
          bounded_congr bounded rfl rfl rfl rfl rfl
        have started := modSlot_bounded (i := i) (f := fun r => { r with rejudging := true, derived := 0, zones := [] })
          running { running.records i with zones := Nat.zero_le _ }
        simp only [State.startRejudge]
        split
        · exact endRejudge_bounded started _
        · exact started

theorem rejudgeStep_bounded {s : State} (bounded : Bounded s) : Bounded s.rejudgeStep := by
  unfold State.rejudgeStep
  split
  · exact bounded
  · rename_i run _
    split
    · have running : Bounded { s with engine := some { run with reached := run.reached + 1 } } :=
        bounded_congr bounded rfl rfl rfl rfl rfl
      exact modSlot_bounded running (rejudgeStrip_bounded (running.records run.slot) _ _)
    · exact endRejudge_bounded bounded run

/-! ## Passages -/

theorem flagSlot_bounded {s : State} (bounded : Bounded s) (i : Fin Config.slots) (k : HistoryFlag) :
    Bounded (s.modSlot i fun r => r.flag k) :=
  modSlot_bounded bounded (flag_bounded (bounded.records i) k)

theorem poolShort_bounded {s : State} (bounded : Bounded s) (i : Fin Config.slots) : Bounded (s.poolShort i) := by
  have flagged := flagSlot_bounded bounded i .poolShort
  unfold State.poolShort
  dsimp only
  split
  · exact flagged
  · exact raise_bounded flagged _ _

theorem closeAll_bounded {s : State} (bounded : Bounded s) (i : Fin Config.slots) : Bounded (s.closeAll i) :=
  modSlot_bounded bounded (closeStrips_bounded (bounded.records i) _ _)

theorem voidRecord_bounded {s : State} (bounded : Bounded s) (i : Fin Config.slots) : Bounded (s.voidRecord i) :=
  raise_bounded (modSlot_bounded (f := fun r => { r with state := .void, verdict := .incomplete }) bounded
    { bounded.records i with }) _ _

theorem finishRecord_bounded {s : State} (bounded : Bounded s) (i : Fin Config.slots) : Bounded (s.finishRecord i) :=
  raise_bounded (modSlot_bounded (f := fun r => { r.giveVerdict (s.limit r.shell.limitSet) with state := .complete })
    bounded { giveVerdict_bounded (bounded.records i) _ with }) _ _

theorem completeRecord_bounded {s : State} (bounded : Bounded s) (i : Fin Config.slots) :
    Bounded (s.completeRecord i) := by
  have truncated := modSlot_bounded bounded (truncateAt_bounded (bounded.records i))
  have filled : Bounded (s.fillStrips i).1 := by
    refine allocStrips_bounded i _ truncated ?_
    have same := (sameShell_truncateAt (s.slot i)).strips
    have few := (bounded.records i).strips
    rw [modSlot_slot_same, same]
    have most := Nat.min_le_left Config.maxStations (s.slot i).stationsNeeded
    omega
  have short : Bounded (if (s.fillStrips i).2 then (s.fillStrips i).1 else (s.fillStrips i).1.poolShort i) := by
    split
    · exact filled
    · exact poolShort_bounded filled i
  simp only [State.completeRecord]
  generalize (if (s.fillStrips i).2 then (s.fillStrips i).1 else (s.fillStrips i).1.poolShort i) = s1 at short
  have closed := closeAll_bounded short i
  have ended : ∀ u : State, Bounded u →
      Bounded ((u.appendCompletion i).setTracker ((u.appendCompletion i).tracker.endContext i)) :=
    fun u kept => bounded_congr kept rfl rfl rfl rfl rfl
  refine ended _ ?_
  split
  · exact voidRecord_bounded closed i
  · exact finishRecord_bounded closed i

theorem advanceContext_bounded {s : State} (bounded : Bounded s) (c : Context) : Bounded (s.advanceContext c) := by
  have closed : Bounded (s.closeBehind c.slot (s.rearDistance c)) :=
    modSlot_bounded bounded (closeStrips_bounded (bounded.records c.slot) _ _)
  simp only [State.advanceContext]
  split
  · exact completeRecord_bounded closed _
  · exact closed

theorem stallRecord_bounded {s : State} (bounded : Bounded s) (c : Context) : Bounded (s.stallRecord c) := by
  have flagged := flagSlot_bounded bounded c.slot .stalled
  have voided := voidRecord_bounded (closeAll_bounded flagged c.slot) c.slot
  exact bounded_congr voided rfl rfl rfl rfl rfl

/-- What one context's part keeps, the parts of a list of contexts keep. -/
theorem foldl_contexts_keeps {P : State → Prop} {f : State → Context → State} (each : ∀ s c, P s → P (f s c))
    (cs : List Context) {s : State} (holds : P s) : P (cs.foldl f s) := by
  induction cs generalizing s with
  | nil => exact holds
  | cons c rest ih => exact ih (each s c holds)

theorem flagBound_bounded {s : State} (bounded : Bounded s) (k : HistoryFlag) : Bounded (s.flagBound k) :=
  foldl_contexts_keeps (P := Bounded) (f := fun u c => u.modSlot c.slot fun r => r.flag k)
    (fun _ c kept => flagSlot_bounded kept c.slot k) _ bounded

theorem stallAll_bounded {s : State} (bounded : Bounded s) : Bounded s.stallAll := by
  have voided := foldl_contexts_keeps (P := Bounded) (fun _ c kept => stallRecord_bounded kept c) s.tracker.contexts bounded
  have ended (t : Tracker) (slips : t.slips = _) := raise_bounded (setTracker_bounded voided slips) .stall .none
  exact ended _ rfl

theorem makeRoom_bounded {s : State} (bounded : Bounded s) : Bounded s.makeRoom := by
  unfold State.makeRoom
  split
  · exact completeRecord_bounded (flagSlot_bounded bounded _ .cutShort) _
  · exact bounded

theorem seekRecord_bounded {s : State} (bounded : Bounded s) : Bounded s.seekRecord.1 := by
  have unrecorded := raise_bounded bounded .unrecorded .none
  unfold State.seekRecord
  split
  · rename_i i rest _
    have dequeued : Bounded { s with armQueue := rest } := bounded_congr bounded rfl rfl rfl rfl rfl
    exact modSlot_bounded (f := fun r => { r with state := .measuring }) dequeued { dequeued.records i with }
  · split
    · split
      · rename_i i t taken
        have kept := allocSlot_keeps evict_bounded bounded taken
        exact refUp_bounded (modSlot_bounded kept (made_bounded _ _ _ _ _)) _
      · exact unrecorded
    · exact unrecorded

theorem litEdge_bounded {s t : State} (bounded : Bounded s) (next : execLitEdge s = .next t) : Bounded t := by
  obtain rfl := Host.Outcome.next.inj next
  split
  · have lit : Bounded (s.setTracker (s.tracker.takeEdge .lit)) := setTracker_bounded bounded rfl
    simp only [State.arrival, State.openPassage]
    refine setTracker_bounded (seekRecord_bounded (makeRoom_bounded lit)) ?_
    split <;> rfl
  · exact bounded

theorem darkEdge_bounded {s t : State} (bounded : Bounded s) (next : execDarkEdge s = .next t) : Bounded t := by
  obtain rfl := Host.Outcome.next.inj next
  split
  · have dark : Bounded (s.setTracker (s.tracker.takeEdge .dark)) := setTracker_bounded bounded rfl
    unfold State.departure
    split
    · rename_i c _
      have finished : ∀ (u : State) length, Bounded u →
          Bounded (u.modSlot c.slot fun r => { r with state := .finishing, length }) :=
        fun u _ kept => modSlot_bounded kept { kept.records c.slot with }
      exact finished _ _ (setTracker_bounded dark rfl)
    · exact setTracker_bounded dark rfl
  · exact bounded

theorem spinTimeout_bounded {s t : State} (bounded : Bounded s) (next : execSpinTimeout s = .next t) : Bounded t := by
  obtain rfl := Host.Outcome.next.inj next
  split
  · have lost : Bounded (s.setTracker { s.tracker with spin := .unsynced, spinTimer := .stopped }) :=
      setTracker_bounded bounded rfl
    simp only [State.loseSpin]
    split
    · exact lost
    · exact raise_bounded (flagBound_bounded lost _) _ _
  · exact bounded

/-! ## Heads -/

theorem validReport_bounded {s : State} (bounded : Bounded s) (h : Fin Config.heads) (octets : List Byte) :
    Bounded (s.validReport h octets) := by
  have checked := checkSequence_bounded (bounded.heads h) (octets.getD 0 0)
  simp only [State.validReport]
  split
  · have counted := headCount_bounded checked .overrun 1
    exact raise_bounded (setHead_bounded bounded (keepRunning_bounded counted.queue counted.counters)) _ _
  · rename_i room
    refine setHead_bounded bounded (keepRunning_bounded ?_ checked.counters)
    simp only [HeadPort.full, decide_eq_true_eq, Nat.not_le] at room
    simpa using room

theorem gather_bounded {s : State} (bounded : Bounded s) (h : Fin Config.heads) (octets : List Byte) (fault : Bool) :
    Bounded (s.gather h octets fault) := by
  unfold State.gather State.runReached
  split
  · split
    · exact setLine_bounded (countHead_bounded bounded h _) h _
    · exact setLine_bounded (validReport_bounded bounded h octets) h _
  · exact setLine_bounded bounded h _

theorem octetIn_bounded {s : State} (bounded : Bounded s) (h : Fin Config.heads) (o : RunOctet) :
    Bounded (s.octetIn h o) := by
  unfold State.octetIn
  split
  · exact bounded
  · split
    · exact gather_bounded bounded h _ _
    · exact setLine_bounded bounded h _
  · exact gather_bounded bounded h _ _
  · exact setLine_bounded bounded h _
  · exact bounded

theorem octetsIn_bounded (h : Fin Config.heads) (octets : List RunOctet) {s : State} (bounded : Bounded s) :
    Bounded (s.octetsIn h octets) := by
  induction octets generalizing s with
  | nil => exact bounded
  | cons o rest ih => exact ih (octetIn_bounded bounded h o)

theorem lineGap_bounded {s : State} (bounded : Bounded s) (h : Fin Config.heads) : Bounded (s.lineGap h) := by
  unfold State.lineGap
  split
  · exact setLine_bounded bounded h _
  · exact bounded
  · exact setLine_bounded (countHead_bounded bounded h _) h _
  · split
    · exact setLine_bounded (countHead_bounded bounded h _) h _
    · exact setLine_bounded bounded h _
  · exact setLine_bounded (countHead_bounded bounded h _) h _

theorem silenceTimeout_bounded {s t : State} {h : Fin Config.heads} (bounded : Bounded s)
    (next : execSilenceTimeout h s = .next t) : Bounded t := by
  have port := bounded.heads h
  obtain rfl := Host.Outcome.next.inj next
  split
  · unfold State.fallSilent
    split
    · exact setHead_bounded bounded ⟨port.queue, fun is => absurd is (by simp), port.counters⟩
    · have silent : Bounded (s.setHead h { s.head h with state := .silent, silenceTimer := .stopped }) :=
        setHead_bounded bounded ⟨port.queue, fun is => absurd is (by simp), port.counters⟩
      exact raise_bounded (flagBound_bounded silent _) _ _
  · exact bounded

theorem headSet_bounded (head : Byte) (f : HeadFields) (s : State) (bounded : Bounded s) :
    Bounded (headSet head f s).1 := by
  unfold headSet
  split
  · exact bounded
  · rename_i h _
    split
    · exact bounded
    · rename_i disabled
      split
      · exact bounded
      · have empty := (bounded.heads h).empty (by simpa using disabled)
        exact setHead_bounded bounded (emptied_bounded empty (bounded.heads h).counters)

theorem headEnable_bounded (head : Byte) (s : State) (bounded : Bounded s) : Bounded (headEnable head s).1 := by
  unfold headEnable
  split
  · exact bounded
  · rename_i h _
    split
    · exact bounded
    · have port := bounded.heads h
      exact setHead_bounded bounded
        (headSettle_bounded ⟨port.queue, fun is => absurd is (by simp), port.counters⟩)

theorem headDisable_bounded (head : Byte) (s : State) (bounded : Bounded s) : Bounded (headDisable head s).1 := by
  unfold headDisable
  split
  · exact bounded
  · rename_i h _
    refine setHead_bounded bounded ?_
    unfold HeadPort.disable
    split
    · rename_i disabled
      exact emptied_bounded ((bounded.heads h).empty disabled) cleared_counters
    · exact headSettle_bounded (emptied_bounded rfl cleared_counters)

/-! ## Shots -/

theorem reject_bounded {s : State} (bounded : Bounded s) (i : Fin Config.slots) (station : Nat)
    (sector : Fin Config.sectors) : Bounded (s.reject i station sector) :=
  modSlot_bounded bounded (rejectShot_bounded (bounded.records i) _ _)

theorem convert_bounded {s : State} (bounded : Bounded s) (h : Fin Config.heads) (rep : Report) (i : Fin Config.slots)
    (station : Nat) (sector : Fin Config.sectors) (cls : ShotClass) :
    Bounded (s.convert h rep i station sector cls) := by
  have taken (m : MaterialFields) : Bounded (s.modSlot i fun r => r.tempTaken m rep) :=
    modSlot_bounded bounded (tempTaken_bounded (bounded.records i) m rep)
  simp only [State.convert]
  split
  · exact reject_bounded (countHead_bounded (taken _) h _) _ _ _
  · split
    · exact reject_bounded (taken _) _ _ _
    · exact modSlot_bounded (taken _) (acceptShot_bounded ((taken _).records i) _ _ _ _)

theorem classify_bounded {s : State} (bounded : Bounded s) (h : Fin Config.heads) (rep : Report) (i : Fin Config.slots)
    (station : Nat) (sector : Fin Config.sectors) : Bounded (s.classify h rep i station sector) := by
  have counted := countHead_bounded bounded h ((s.material (s.slot i).shell.grade).read.classify rep).counter
  simp only [State.classify]
  split
  · exact reject_bounded counted _ _ _
  · exact convert_bounded counted _ _ _ _ _ _

theorem place_bounded {s : State} (bounded : Bounded s) (h : Fin Config.heads) (rep : Report) (i : Fin Config.slots)
    (generation : Byte) (station : Nat) (sector : Fin Config.sectors) :
    Bounded (s.place h rep i generation station sector) := by
  simp only [State.place]
  split
  · exact countHead_bounded bounded h _
  · split
    · have counted := countHead_bounded bounded h .beyond
      exact flagSlot_bounded counted i _
    · rename_i near
      split
      · split
        · have counted := countHead_bounded bounded h .late
          exact modSlot_bounded (f := fun r => { r with late := countUp r.late }) counted
            { counted.records i with late := countUp_le _ }
        · exact classify_bounded bounded h rep i _ _
      · have filled : Bounded (State.allocStrips (station + 1 - (s.slot i).strips.length) i s).1 := by
          have few := (bounded.records i).strips
          exact allocStrips_bounded i _ bounded (by omega)
        split
        · exact classify_bounded filled h rep i _ _
        · exact poolShort_bounded (countHead_bounded filled h _) i

theorem takeReport_bounded {s : State} (bounded : Bounded s) {h : Fin Config.heads} {rep : Report} {rest : List Report}
    (queue : (s.head h).queue = rep :: rest) : Bounded (s.takeReport h rest) := by
  have port := bounded.heads h
  have taken : Bounded (s.setHead h (HeadPort.settle { s.head h with queue := rest })) := by
    refine setHead_bounded bounded (headSettle_bounded ⟨?_, fun disabled => ?_, port.counters⟩)
    · have fits := port.queue
      rw [queue] at fits
      exact (Nat.le_succ _).trans fits
    · have none := port.empty disabled
      simp [queue] at none
  exact bounded_congr taken rfl rfl rfl rfl rfl

theorem shotService_bounded {s : State} (bounded : Bounded s) : Bounded s.shotService := by
  unfold State.shotService
  split
  · exact bounded
  · rename_i h _
    split
    · exact bounded
    · rename_i rep rest queue
      have taken := takeReport_bounded bounded queue
      split
      · exact countHead_bounded taken h _
      · exact place_bounded taken h rep _ _ _ _

/-! ## The other commands -/

theorem trackerSet_bounded (f : TrackerFields) (s : State) (bounded : Bounded s) : Bounded (trackerSet f s).1 := by
  unfold trackerSet
  split
  · exact bounded
  · split
    · exact bounded
    · exact setTracker_bounded bounded rfl

theorem index_bounded {s : State} (bounded : Bounded s) : Bounded (s.setTracker s.tracker.index) where
  records := bounded.records
  heads := bounded.heads
  replies := bounded.replies
  ringCounters := bounded.ringCounters
  slips := by
    simp only [setTracker_tracker, Tracker.index]
    split
    · exact countUp_le _
    · exact bounded.slips
  notices := bounded.notices

theorem templateWrite_bounded (f : ShellFields) (s : State) (bounded : Bounded s) :
    Bounded (templateWrite f s).1 := by
  unfold templateWrite
  split
  · exact bounded
  · exact bounded_congr bounded rfl rfl rfl rfl rfl

theorem poolSet_bounded (setting : Byte) (s : State) (bounded : Bounded s) : Bounded (poolSet setting s).1 := by
  unfold poolSet
  split
  · exact bounded
  · exact bounded_congr bounded rfl rfl rfl rfl rfl

theorem limitWrite_bounded (set : Byte) (f : LimitFields) (s : State) (bounded : Bounded s) :
    Bounded (limitWrite set f s).1 := by
  unfold limitWrite
  split
  · exact bounded
  · split
    · exact bounded
    · exact bounded_congr bounded rfl rfl rfl rfl rfl

theorem setAddress_bounded (part : Byte) (s : State) (bounded : Bounded s) : Bounded (setAddress part s).1 := by
  unfold setAddress
  split <;> exact bounded

theorem stationsWrite_bounded (f : StationFields) (s : State) (bounded : Bounded s) :
    Bounded (stationsWrite f s).1 := by
  unfold stationsWrite
  split
  · exact bounded
  · exact setRing_bounded bounded ⟨bounded.replies, bounded.ringCounters⟩

theorem joinRing_bounded (s : State) (bounded : Bounded s) : Bounded (joinRing s).1 := by
  unfold joinRing
  split
  · exact setRing_bounded bounded ⟨bounded.replies, bounded.ringCounters⟩
  · exact bounded

theorem leaveRing_bounded (s : State) (bounded : Bounded s) : Bounded (leaveRing s).1 := by
  unfold leaveRing
  split
  · exact bounded
  · exact setRing_bounded bounded ⟨bounded.replies, bounded.ringCounters⟩
  · exact bounded

theorem noticeMask_bounded (mask : Half) (s : State) (bounded : Bounded s) : Bounded (noticeMask mask s).1 := by
  unfold noticeMask
  split
  · exact bounded
  · exact bounded_congr bounded rfl rfl rfl rfl rfl

theorem fetchNotice_bounded (s : State) (bounded : Bounded s) : Bounded (fetchNotice s).1 := by
  unfold fetchNotice
  split
  · exact bounded
  · rename_i k _
    exact { bounded with
      notices := fun j => by
        simp only [setNotices_notices, NoticeUnit.fetched, NoticeUnit.settle, Fin.getElem_fin, Vector.getElem_set]
        split
        · exact Nat.zero_le _
        · exact bounded.notices j }

theorem countersClear_bounded (s : State) (bounded : Bounded s) : Bounded (countersClear s).1 :=
  { bounded with ringCounters := fun c => by simp [countersClear], slips := Nat.zero_le _ }

theorem pollFrame_bounded {s : State} (bounded : Bounded s) (dest source : Byte) :
    Bounded (s.pollFrame dest source) := by
  have framed := bounded_requestSafe.frame s bounded
  simp only [State.pollFrame]
  split
  · exact bounded_requestSafe.count _ _ framed
  · split
    · exact setRing_bounded framed ⟨framed.replies, framed.ringCounters⟩
    · exact framed

theorem delimiterIn_bounded {s : State} (bounded : Bounded s) : Bounded s.delimiterIn := by
  have cut := cut_bounded (ringBounded bounded)
  exact setRing_bounded bounded ⟨cut.replies, cut.counters⟩

theorem discardFrame_bounded {s : State} (bounded : Bounded s) (content : List Bool) :
    Bounded (s.discardFrame content) := by
  unfold State.discardFrame
  split
  · exact bounded_requestSafe.count _ _ (bounded_requestSafe.frame s bounded)
  · exact delimiterIn_bounded bounded

/-- A state with emptied records, queues, replies and counters is within its bounds. -/
theorem bounded_of_empty {s : State} (slots : ∀ i, s.slot i = Record.free 0) (queues : ∀ h, (s.head h).queue = [])
    (headCounters : ∀ h, (s.head h).counters = Vector.replicate 14 0) (replies : s.ring.replies = [])
    (counters : s.ring.counters = Vector.replicate 8 0) (slips : s.tracker.slips = 0)
    (notices : s.notices.entries = Vector.replicate 11 {}) : Bounded s where
  records i := slots i ▸ free_bounded 0
  heads h := emptied_bounded (queues h) (headCounters h ▸ cleared_counters)
  replies := by simp [replies]
  ringCounters c := by simp [counters]
  slips := by simp [slips]
  notices k := by simp [notices]

theorem restart_bounded (s : State) : Bounded s.restart := by
  refine bounded_of_empty (fun i => ?_) (fun h => ?_) (fun h => ?_) rfl rfl rfl rfl
  · simp [State.slot, State.restart]
  · simp [State.head, State.restart, HeadPort.restart]
  · simp [State.head, State.restart, HeadPort.restart]

theorem applySupply_bounded (s : State) (straps : BitVec 2) : Bounded (s.applySupply straps) := by
  refine bounded_of_empty (fun i => ?_) (fun h => ?_) (fun h => ?_) rfl rfl rfl rfl
  · simp [State.slot, State.applySupply, State.powerOn]
  · simp [State.head, State.applySupply, State.powerOn, HeadPort.powerOn]
  · simp [State.head, State.applySupply, State.powerOn, HeadPort.powerOn]

/-! ## Every step -/

theorem exec_bounded (i : Instr) (s t : State) (bounded : Bounded s) (next : exec i s = .next t) : Bounded t := by
  have safe := bounded_requestSafe
  have ring := (ringBounded bounded)
  cases i with
  | arm h id f => exact answering_keeps safe (arm_bounded id f) bounded next
  | disarm h ref => exact answering_keeps safe (withRecord_keeps fun i u _ => disarm_bounded i u) bounded next
  | lookup | readStrips | readZones =>
    exact answering_keeps safe (withRecord_keeps fun _ _ _ kept => kept) bounded next
  | find | templateRead | headRead | materialRead | poolStatus | limitRead | partStatus | countersRead =>
    exact reading_keeps safe bounded next
  | amend h ref f => exact answering_keeps safe (withRecord_keeps fun i u _ => amend_bounded f i u) bounded next
  | templateWrite h f => exact answering_keeps safe (templateWrite_bounded f) bounded next
  | trackerSet h f => exact answering_keeps safe (trackerSet_bounded f) bounded next
  | headSet h head f => exact answering_keeps safe (headSet_bounded head f) bounded next
  | headEnable h head => exact answering_keeps safe (headEnable_bounded head) bounded next
  | headDisable h head => exact answering_keeps safe (headDisable_bounded head) bounded next
  | materialWrite h entry f => exact answering_keeps safe (materialWrite_bounded entry f) bounded next
  | materialClear h entry => exact answering_keeps safe (materialClear_bounded entry) bounded next
  | poolSet h setting => exact answering_keeps safe (poolSet_bounded setting) bounded next
  | limitWrite h set f => exact answering_keeps safe (limitWrite_bounded set f) bounded next
  | rejudge h ref => exact answering_keeps safe (withRecord_keeps fun i u _ => rejudge_bounded i u) bounded next
  | claim h ref => exact answering_keeps safe (withRecord_keeps fun i u _ => claim_bounded h.source i u) bounded next
  | release h ref => exact answering_keeps safe (withRecord_keeps fun i u _ => release_bounded h.source i u) bounded next
  | retireNow h ref octet =>
    exact answering_keeps safe (withRecord_keeps fun i u _ => retire_bounded (nowOption octet) i u) bounded next
  | retireDeferred h ref =>
    exact answering_keeps safe (withRecord_keeps fun i u _ => retire_bounded .deferred i u) bounded next
  | retireForce h ref =>
    exact answering_keeps safe (withRecord_keeps fun i u _ => retire_bounded .force i u) bounded next
  | setAddress h part => exact answering_keeps safe (setAddress_bounded part) bounded next
  | stationsWrite h f => exact answering_keeps safe (stationsWrite_bounded f) bounded next
  | joinRing h => exact answering_keeps safe joinRing_bounded bounded next
  | leaveRing h => exact answering_keeps safe leaveRing_bounded bounded next
  | noticeMask h mask => exact answering_keeps safe (noticeMask_bounded mask) bounded next
  | fetchNotice h => exact answering_keeps safe fetchNotice_bounded bounded next
  | countersClear h => exact answering_keeps safe countersClear_bounded bounded next
  | restart h => exact answering_keeps safe (fun u _ => restart_bounded u) bounded next
  | malformed | ignoredBroadcast =>
    exact Host.Outcome.next.inj next ▸ request_keeps safe (fun _ kept => kept) bounded _ _ _
  | poll dest source => exact Host.Outcome.next.inj next ▸ pollFrame_bounded bounded dest source
  | frameDiscard content => exact Host.Outcome.next.inj next ▸ discardFrame_bounded bounded content
  | longFrame =>
    have framed := frame_bounded ring
    exact Host.Outcome.next.inj next ▸ safe.count _ _ (setRing_bounded bounded ⟨framed.replies, framed.counters⟩)
  | abort =>
    have cut := cut_bounded ring
    exact Host.Outcome.next.inj next ▸ safe.count _ _ (setRing_bounded bounded ⟨cut.replies, cut.counters⟩)
  | idleRun => exact Host.Outcome.next.inj next ▸ setRing_bounded bounded (idleRun_bounded ring)
  | takeTurn => exact Host.Outcome.next.inj next ▸ setRing_bounded bounded (takeTurn_bounded ring)
  | replySent => exact Host.Outcome.next.inj next ▸ setRing_bounded bounded (replySent_bounded ring)
  | turnEnd =>
    exact Host.Outcome.next.inj next ▸ setRing_bounded bounded ⟨by simpa using ring.replies, by simpa using ring.counters⟩
  | cutEnd =>
    exact Host.Outcome.next.inj next ▸ setRing_bounded bounded ⟨by simpa using ring.replies, by simpa using ring.counters⟩
  | turnCut | delimiterReceived => exact Host.Outcome.next.inj next ▸ delimiterIn_bounded bounded
  | entryChange | spinPulse => exact Host.Outcome.next.inj next ▸ setTracker_bounded bounded rfl
  | indexPulse => exact Host.Outcome.next.inj next ▸ index_bounded bounded
  | litEdge => exact litEdge_bounded bounded next
  | darkEdge => exact darkEdge_bounded bounded next
  | advancePulse =>
    have pulsed : Bounded (s.setTracker s.tracker.pulse) := setTracker_bounded bounded rfl
    exact Host.Outcome.next.inj next ▸ foldl_contexts_keeps (P := Bounded) (fun _ c kept => advanceContext_bounded kept c) _ pulsed
  | stall =>
    obtain rfl := Host.Outcome.next.inj next
    split
    · exact stallAll_bounded bounded
    · exact bounded
  | spinTimeout => exact spinTimeout_bounded bounded next
  | headReport port octets => exact Host.Outcome.next.inj next ▸ octetsIn_bounded port _ bounded
  | corrupt port octets =>
    have taken := octetsIn_bounded port octets bounded
    obtain rfl := Host.Outcome.next.inj next
    split
    · exact lineGap_bounded taken port
    · exact taken
  | stray port octets => exact Host.Outcome.next.inj next ▸ lineGap_bounded (octetsIn_bounded port octets bounded) port
  | silenceTimeout port => exact silenceTimeout_bounded bounded next
  | shotService => exact Host.Outcome.next.inj next ▸ shotService_bounded bounded
  | rejudgeStep => exact Host.Outcome.next.inj next ▸ rejudgeStep_bounded bounded
  | powerOn straps => exact Host.Outcome.next.inj next ▸ applySupply_bounded s straps
  | lineIdleGap port => exact Host.Outcome.next.inj next ▸ lineGap_bounded bounded port

/-- Settles O55: every list grows only after its bound was checked, and every counter stops at its top. -/
theorem stepKeepsBounds : Obligations.StepKeepsBounds := by
  intro s t bounded next
  exact step_keeps (fun u rest kept => bounded_congr (t := { u with pending := rest }) kept rfl rfl rfl rfl rfl)
    (fun u b rest kept => { kept with replies := kept.replies, ringCounters := kept.ringCounters })
    exec_bounded bounded next

end Sys2Proof.Proofs

/-! SUPPORT. What an admitted request answers; the references of records; DISARM, LOOKUP and FIND. -/

namespace Sys2Proof.Proofs

open Sys2Proof.Machine Sys2Proof.Laws

/-! ## What an admitted request answers -/

/-- An admitted request whose command leaves the ring port alone ends in what the command did, with its answer queued. -/
theorem answering_ran {s t : State} {h : Header} {row : RequestRow} (ok : s.Admits h row) {a : Answer}
    {run : State → State × Answer} (ran : run s.frameIn = (t, a)) (ring : t.ring = s.frameIn.ring) :
    answering h row run s = .next (t.answered h row.code a.outcome a.body a.effect) := by
  have room : (run s.frameIn).1.ring.replies.length < Config.replyPlaces := by
    rw [ran, ring]
    simpa using ok.room
  rw [answering_admitted ok run room, ran]

/-- An admitted request whose command refuses changes nothing but the reply queue. -/
theorem answering_refused {s : State} {h : Header} {row : RequestRow} (ok : s.Admits h row) {o : ReplyCode} {field : Nat}
    {run : State → State × Answer} (ran : run s.frameIn = (s.frameIn, .refuse o field)) :
    answering h row run s = .next (s.frameIn.answered h row.code o [BitVec.ofNat 8 field]) :=
  answering_ran ok ran rfl

theorem withRecord_ok {s : State} {ref : RecordRef} {i : Fin Config.slots} (found : s.resolve ref = .ok i)
    (run : Fin Config.slots → State → State × Answer) : withRecord ref run s.frameIn = run i s.frameIn := by
  have found : s.frameIn.resolve ref = .ok i := found
  rw [withRecord, found]

theorem withRecord_error {s : State} {ref : RecordRef} {o : ReplyCode} (lost : s.resolve ref = .error o)
    (run : Fin Config.slots → State → State × Answer) : withRecord ref run s.frameIn = (s.frameIn, .refuse o) := by
  have lost : s.frameIn.resolve ref = .error o := lost
  rw [withRecord, lost]

/-- A command on a record whose reference does not resolve is refused with that outcome, naming no field. -/
theorem unresolved_refused {s : State} {h : Header} {row : RequestRow} {ref : RecordRef} {o : ReplyCode}
    (lost : s.resolve ref = .error o) (run : Fin Config.slots → State → State × Answer) (ok : s.Admits h row) :
    answering h row (withRecord ref run) s = .next (s.frameIn.answered h row.code o [0]) :=
  answering_refused ok (withRecord_error lost run)

/-- Settles O9: the reference is resolved before the command's own part. -/
theorem unresolvedReferencesAreRefused : Obligations.UnresolvedReferencesAreRefused := by
  intro s h ref o lost
  exact ⟨unresolved_refused lost _, unresolved_refused lost _, fun _ => unresolved_refused lost _,
    fun _ _ _ => unresolved_refused lost _, unresolved_refused lost _, unresolved_refused lost _,
    unresolved_refused lost _, unresolved_refused lost _, fun _ => unresolved_refused lost _,
    unresolved_refused lost _, unresolved_refused lost _⟩

/-! ## References -/

theorem live_iff (r : Record) : r.live = true ↔ r.state ≠ .free := by simp [Record.live]

theorem resolve_id {s : State} {ref : RecordRef} (form : ref.form = 0) {i : Fin Config.slots}
    (live : (s.slot i).state ≠ .free) (id : (s.slot i).shellId = some ref.octets)
    (alone : ∀ j, j ≠ i → (s.slot j).state ≠ .free → (s.slot j).shellId ≠ some ref.octets) : s.resolve ref = .ok i := by
  rw [State.resolve, if_pos form]
  cases search : slotOrder.find? fun j => (s.slot j).live && decide ((s.slot j).shellId = some ref.octets) with
  | none =>
    have missed := List.find?_eq_none.mp search i (List.mem_finRange i)
    simp [live_iff, live, id] at missed
  | some j =>
    have holds := List.find?_some search
    simp only [Bool.and_eq_true, live_iff, decide_eq_true_eq] at holds
    by_cases same : j = i
    · rw [same]
    · exact absurd holds.2 (alone j same holds.1)

theorem resolve_unheld {s : State} {ref : RecordRef} (form : ref.form = 0)
    (unheld : ∀ i, (s.slot i).state ≠ .free → (s.slot i).shellId ≠ some ref.octets) :
    s.resolve ref = .error .notFound := by
  have none : slotOrder.find? (fun j => (s.slot j).live && decide ((s.slot j).shellId = some ref.octets)) = none := by
    rw [List.find?_eq_none]
    intro j _ holds
    simp only [Bool.and_eq_true, live_iff, decide_eq_true_eq] at holds
    exact unheld j holds.1 holds.2
  rw [State.resolve, if_pos form, none]

/-- The slot number and the generation that a reference by slot carries. -/
theorem toNat_low_octet (v : Word) : (v.extractLsb' 0 8).toNat = v.toNat % 256 := by
  simp [BitVec.extractLsb'_toNat]

theorem toNat_next_octet (v : Word) : (v.extractLsb' 8 8).toNat = v.toNat / 256 % 256 := by
  simp [BitVec.extractLsb'_toNat, Nat.shiftRight_eq_div_pow]

theorem resolve_slot {s : State} {ref : RecordRef} (form : ref.form = 1 ∨ ref.form = 2) {i : Fin Config.slots}
    (slot : ref.octets.toNat % 256 = i.val) :
    s.resolve ref =
      if (s.slot i).state = .free then .error .notFound
      else if ref.form = 2 ∧ ref.octets.toNat / 256 % 256 ≠ (s.slot i).generation.toNat then .error .notFound
      else .ok i := by
  have byId : ref.form ≠ 0 := by rcases form with is | is <;> rw [is] <;> decide
  have low := toNat_low_octet ref.octets
  have small : (ref.octets.extractLsb' 0 8).toNat < Config.slots := by rw [low, slot]; exact i.isLt
  have named : (⟨(ref.octets.extractLsb' 0 8).toNat, small⟩ : Fin Config.slots) = i := Fin.ext (low.trans slot)
  have generation : ref.octets.extractLsb' 8 8 ≠ (s.slot i).generation ↔
      ref.octets.toNat / 256 % 256 ≠ (s.slot i).generation.toNat := by
    rw [← toNat_next_octet, Ne, Ne, BitVec.toNat_inj]
  simp only [State.resolve, if_neg byId, if_pos form, dif_pos small, named, generation]

theorem resolve_slot_beyond {s : State} {ref : RecordRef} (form : ref.form = 1 ∨ ref.form = 2)
    (beyond : 15 < ref.octets.toNat % 256) : s.resolve ref = .error .range := by
  have byId : ref.form ≠ 0 := by rcases form with is | is <;> rw [is] <;> decide
  have large : ¬(ref.octets.extractLsb' 0 8).toNat < Config.slots := by
    rw [toNat_low_octet]
    exact Nat.not_lt.mpr beyond
  simp only [State.resolve, if_neg byId, if_pos form, dif_neg large]

theorem resolve_other_form {s : State} {ref : RecordRef} (form : 2 < ref.form.toNat) : s.resolve ref = .error .range := by
  have apart : ∀ k : Byte, k.toNat ≤ 2 → ref.form ≠ k := fun k small is => by rw [is] at form; omega
  simp only [State.resolve, if_neg (apart 0 (by decide)),
    if_neg (not_or.mpr ⟨apart 1 (by decide), apart 2 (by decide)⟩)]

/-- Settles O8: by the three forms of a reference. -/
theorem referencesResolve : Obligations.ReferencesResolve := by
  intro s ref
  refine ⟨fun form => ⟨fun i live id alone => resolve_id form live id alone, resolve_unheld form⟩,
    fun form => ⟨resolve_slot_beyond form, fun i slot => resolve_slot form slot⟩, resolve_other_form⟩

/-! ## DISARM and the freeing of a record -/

/-- Settles O14: an ARMED record is freed, any other refuses. -/
theorem disarmFreesArmedRecord : Obligations.DisarmFreesArmedRecord := by
  intro s h ref i ok found
  have run := withRecord_ok found disarm
  by_cases armed : (s.slot i).state = .armed
  · rw [if_pos armed]
    exact answering_ran ok (run.trans (if_pos armed)) rfl
  · rw [if_neg armed]
    exact answering_refused ok (run.trans (if_neg armed))

theorem settled_stallTimer (t : Tracker) :
    t.settle.stallTimer = .running ↔ t.settle.contexts ≠ [] ∨ t.settle.blind = true := by
  simp only [Tracker.settle]
  split <;> simp_all

/-- Settles O13: each part of the freeing on its own. -/
theorem freeingDoesAll : Obligations.FreeingDoesAll := by
  intro s i
  dsimp only
  refine ⟨freeRecord_slot_same s i, fun j other => freeRecord_slot_other s i j other.symm, rfl, rfl, rfl, ?_,
    settled_stallTimer _, rfl, fun run is at_i => ?_, fun away => ?_, rfl, ?_, ?_, fun q other => ?_, rfl⟩
  · rw [freeRecord_tracker, dropContext_blind, Bool.or_eq_true, measures_iff]
  · rw [freeRecord_engine, is]
    simp [at_i]
  · rw [freeRecord_engine]
    cases is : s.engine with
    | none => rfl
    | some run => simp [away run is]
  · rw [freeRecord_material, if_pos rfl]
  · rw [freeRecord_material, if_pos rfl]
  · rw [freeRecord_material, if_neg other.symm]

/-! ## LOOKUP -/

theorem subFlags_eq (r : Record) :
    r.subFlags = (if r.rejudging then 1 else 0) + (if r.retirePending then 2 else 0) := by
  rw [Record.subFlags]
  cases r.rejudging <;> cases r.retirePending <;> rfl

theorem presence_eq (r : Record) : r.presence = (if r.shellId.isSome then 1 else 0) +
    (if r.length.isSome then 2 else 0) + (if r.lastTemp.isSome then 4 else 0) := by
  rw [Record.presence]
  cases r.shellId.isSome <;> cases r.length.isSome <;> cases r.lastTemp.isSome <;> rfl

/-- Settles O15: the header's parts in order. -/
theorem lookupAnswersHeader : Obligations.LookupAnswersHeader := by
  intro s h ref i ok found
  have read := answering_ran ok (withRecord_ok found fun i => reading (lookup i)) rfl
  have header : (lookup i s.frameIn).body = (s.slot i).header i := rfl
  simp only [Record.header, subFlags_eq, presence_eq, ShellSettings.octets, claimOctets, optionalOctets,
    List.append_assoc] at header
  simp only [List.append_assoc]
  exact read.trans (congrArg (fun b => Host.Outcome.next (s.frameIn.answered h 0x12 .done b)) header)

/-! ## FIND -/

theorem firstBad_true {n : Nat} {ok : Bool} (passes : ok = true) (rest : List Bool) :
    firstBad n (ok :: rest) = firstBad (n + 1) rest := by rw [firstBad, if_pos passes]

theorem firstBad_false {n : Nat} {ok : Bool} (fails : ok = false) (rest : List Bool) : firstBad n (ok :: rest) = some n := by
  rw [firstBad, fails]
  rfl

theorem testBit_pack_cons (w v : Nat) (rest : List (Nat × Nat)) (k : Nat) :
    (pack ((w, v) :: rest)).testBit k = if k < w then v.testBit k else (pack rest).testBit (k - w) := by
  rw [pack, Nat.add_comm, Nat.testBit_two_pow_mul_add _ (Nat.mod_lt _ (Nat.two_pow_pos w))]
  split
  · rename_i low
    rw [Nat.testBit_mod_two_pow]
    simp [low]
  · rfl

/-- A set has no bit outside a mask exactly when each bit at a place outside it is 0. -/
theorem and_not_mask_eq_zero {w : Nat} {v mask : BitVec w} {out : Nat → Prop}
    (bits : ∀ k, k < w → (mask.getLsbD k = false ↔ out k)) : v &&& ~~~mask = 0 ↔ ∀ k, out k → v.getLsbD k = false := by
  constructor
  · intro zero k outside
    by_cases inside : k < w
    · have bit : (v &&& ~~~mask).getLsbD k = false := by rw [zero]; exact BitVec.getLsbD_zero
      simpa only [BitVec.getLsbD_and, BitVec.getLsbD_not, (bits k inside).mpr outside, inside, decide_true,
        Bool.not_false, Bool.and_true] using bit
    · exact BitVec.getLsbD_of_ge v k (Nat.not_lt.mp inside)
  · intro clear
    apply BitVec.eq_of_getLsbD_eq
    intro k inside
    simp only [BitVec.getLsbD_and, BitVec.getLsbD_not, inside, decide_true, Bool.true_and]
    cases masked : mask.getLsbD k with
    | true => simp
    | false => simp [clear k ((bits k inside).mp masked)]

theorem states_known_iff (states : Byte) :
    states &&& ~~~0x3E#8 = 0 ↔ ∀ k : Nat, k = 0 ∨ 6 ≤ k → states.getLsbD k = false :=
  and_not_mask_eq_zero (by decide)

theorem verdicts_known_iff (verdicts : Byte) :
    verdicts &&& ~~~0x1F#8 = 0 ↔ ∀ k : Nat, 5 ≤ k → verdicts.getLsbD k = false :=
  and_not_mask_eq_zero (by decide)

theorem flags_known_iff (flags : BitVec 24) :
    flags &&& ~~~0x01FFFF#24 = 0 ↔ ∀ k : Nat, 17 ≤ k → flags.getLsbD k = false :=
  and_not_mask_eq_zero (by decide)

/-- A criterion that is not known names a value outside its members. -/
theorem unknown_of_bit {w : Nat} {v mask : BitVec w} {out : Nat → Prop}
    (known : v &&& ~~~mask = 0 ↔ ∀ k, out k → v.getLsbD k = false) (names : ∃ k, out k ∧ v.getLsbD k = true) :
    decide (v &&& ~~~mask = 0) = false := by
  obtain ⟨k, outside, bit⟩ := names
  refine decide_eq_false fun zero => ?_
  rw [known.mp zero k outside] at bit
  exact absurd bit (by decide)

/-- The places of a record's flags in FIND's flags set. -/
theorem flagSet_bit (r : Record) (k : Nat) (inside : k < 24) :
    r.flagSet.getLsbD k =
      if k < 10 then r.history.getLsbD k
      else if k < 15 then r.derived.getLsbD (k - 10)
      else (k == 15 && r.rejudging || k == 16 && r.retirePending) := by
  rw [Record.flagSet, BitVec.getLsbD_ofNat, decide_eq_true inside, Bool.true_and, testBit_pack_cons, testBit_pack_cons]
  split
  · rfl
  · split
    · rw [if_pos (by omega)]
      rfl
    · rw [if_neg (by omega), Nat.sub_sub, testBit_pack_cons]
      obtain ⟨j, rfl⟩ : ∃ j, k = 15 + j := ⟨k - 15, by omega⟩
      rw [subFlags_eq, Nat.add_sub_cancel_left]
      match j with
      | 0 => cases r.rejudging <;> cases r.retirePending <;> rfl
      | 1 => cases r.rejudging <;> cases r.retirePending <;> rfl
      | j + 2 =>
        have apart : ¬15 + (j + 2) = 16 := by omega
        simp [pack, apart]

/-- Two sets share a member exactly when some bit stands in both. -/
theorem and_ne_zero_iff {w : Nat} (v u : BitVec w) :
    v &&& u ≠ 0 ↔ ∃ k, k < w ∧ v.getLsbD k = true ∧ u.getLsbD k = true := by
  constructor
  · intro shared
    by_contra none
    refine shared (BitVec.eq_of_getLsbD_eq fun k inside => ?_)
    cases at_v : v.getLsbD k with
    | false => simp [at_v]
    | true =>
      cases at_u : u.getLsbD k with
      | false => simp [at_u]
      | true => exact absurd ⟨k, inside, at_v, at_u⟩ none
  · rintro ⟨k, inside, at_v, at_u⟩ zero
    have bit : (v &&& u).getLsbD k = false := by rw [zero]; exact BitVec.getLsbD_zero
    rw [BitVec.getLsbD_and, at_v, at_u] at bit
    exact absurd bit (by decide)

/-- FIND's third criterion, by the four groups of flags. -/
theorem flags_shared_iff (r : Record) (flags : BitVec 24) :
    flags &&& r.flagSet ≠ 0 ↔
      (∃ k, k < 10 ∧ flags.getLsbD k = true ∧ r.history.getLsbD k = true) ∨
      (∃ k, k < 5 ∧ flags.getLsbD (10 + k) = true ∧ r.derived.getLsbD k = true) ∨
      (flags.getLsbD 15 = true ∧ r.rejudging = true) ∨ (flags.getLsbD 16 = true ∧ r.retirePending = true) := by
  rw [and_ne_zero_iff]
  constructor
  · rintro ⟨k, inside, named, held⟩
    rw [flagSet_bit r k inside] at held
    split at held
    · exact .inl ⟨k, by assumption, named, held⟩
    · split at held
      · obtain ⟨j, rfl⟩ : ∃ j, k = 10 + j := ⟨k - 10, by omega⟩
        rw [Nat.add_sub_cancel_left] at held
        exact .inr (.inl ⟨j, by omega, named, held⟩)
      · simp only [Bool.or_eq_true, Bool.and_eq_true, beq_iff_eq] at held
        rcases held with ⟨rfl, rejudging⟩ | ⟨rfl, pending⟩
        · exact .inr (.inr (.inl ⟨named, rejudging⟩))
        · exact .inr (.inr (.inr ⟨named, pending⟩))
  · rintro (⟨k, small, named, held⟩ | ⟨k, small, named, held⟩ | ⟨named, held⟩ | ⟨named, held⟩)
    · exact ⟨k, by omega, named, by rw [flagSet_bit r k (by omega), if_pos small, held]⟩
    · refine ⟨10 + k, by omega, named, ?_⟩
      rw [flagSet_bit r _ (by omega), if_neg (by omega), if_pos (by omega), Nat.add_sub_cancel_left, held]
    · exact ⟨15, by decide, named, by rw [flagSet_bit r 15 (by decide), held]; rfl⟩
    · exact ⟨16, by decide, named, by rw [flagSet_bit r 16 (by decide), held]; rfl⟩

theorem meets_iff (r : Record) (states verdicts : Byte) (flags : BitVec 24) :
    r.meets states verdicts flags = true ↔
      r.state ≠ .free ∧ (states = 0 ∨ states.getLsbD r.state.code = true) ∧
      (verdicts = 0 ∨ verdicts.getLsbD r.verdict.code = true) ∧ (flags = 0 ∨ flags &&& r.flagSet ≠ 0) := by
  simp only [Record.meets, Bool.and_eq_true, Bool.or_eq_true, decide_eq_true_eq, live_iff, and_assoc]

theorem find_refused {states verdicts : Byte} {flags : BitVec 24} {field : Nat}
    (fault : findFault states verdicts flags = some field) (s : State) :
    reading (find states verdicts flags) s = (s, .refuse .range field) := by
  rw [reading, find, fault]

theorem slotOrder_pairwise : slotOrder.Pairwise (· < ·) := List.pairwise_lt_finRange _

/-- Settles O16: the three criteria in their order, then the filter of the slots. -/
theorem findListsMatches : Obligations.FindListsMatches := by
  intro s h states verdicts flags ok
  refine ⟨fun named => ?_, fun known named => ?_, fun known₁ known₂ named => ?_, fun known₁ known₂ known₃ => ?_⟩
  · refine answering_refused ok (find_refused ?_ _)
    exact firstBad_false (unknown_of_bit (states_known_iff _) named) _
  · refine answering_refused ok (find_refused ?_ _)
    rw [findFault, firstBad_true (decide_eq_true ((states_known_iff _).mpr known))]
    exact firstBad_false (unknown_of_bit (verdicts_known_iff _) named) _
  · refine answering_refused ok (find_refused ?_ _)
    rw [findFault, firstBad_true (decide_eq_true ((states_known_iff _).mpr known₁)),
      firstBad_true (decide_eq_true ((verdicts_known_iff _).mpr known₂))]
    exact firstBad_false (unknown_of_bit (flags_known_iff _) named) _
  · have sound : findFault states verdicts flags = none := by
      rw [findFault, firstBad_true (decide_eq_true ((states_known_iff _).mpr known₁)),
        firstBad_true (decide_eq_true ((verdicts_known_iff _).mpr known₂)),
        firstBad_true (decide_eq_true ((flags_known_iff _).mpr known₃))]
      rfl
    refine ⟨slotOrder.filter fun i => (s.slot i).meets states verdicts flags, slotOrder_pairwise.filter _, fun i => ?_,
      answering_ran ok (a := .done _) (t := s.frameIn) ?_ rfl⟩
    · rw [List.mem_filter, meets_iff, flags_shared_iff]
      simp [slotOrder]
    · rw [reading, find, sound]
      simp only [List.append_assoc]
      rfl

end Sys2Proof.Proofs

/-! SUPPORT. Allocation and eviction; the shell fields, the template and ARM. -/

namespace Sys2Proof.Proofs

open Sys2Proof.Machine Sys2Proof.Laws

/-! ## Eviction -/

theorem evictable_iff (s : State) (i : Fin Config.slots) :
    s.evictable i = true ↔ (s.slot i).rejudging = false ∧ (s.slot i).claims = [] := by simp [State.evictable]

theorem not_evictable_of {s : State} {i : Fin Config.slots} (held : (s.slot i).rejudging = true ∨ (s.slot i).claims ≠ []) :
    ¬s.evictable i = true := by
  rw [evictable_iff]
  rintro ⟨idle, unclaimed⟩
  rcases held with rejudging | claimed
  · simp [idle] at rejudging
  · exact claimed unclaimed

/-- An eviction takes the oldest eligible record of the completion order list. -/
theorem evict_oldest {s : State} {before after : List (Fin Config.slots)} {i : Fin Config.slots}
    (order : s.completion = before ++ i :: after)
    (held : ∀ j ∈ before, (s.slot j).rejudging = true ∨ (s.slot j).claims ≠ []) (idle : (s.slot i).rejudging = false)
    (unclaimed : (s.slot i).claims = []) : s.evict = some ((s.freeRecord i).raise .evicted (s.subjectOf i)) := by
  have found : s.completion.find? s.evictable = some i := by
    rw [order, List.find?_append, List.find?_eq_none.mpr fun j mem => not_evictable_of (held j mem), Option.none_or,
      List.find?_cons_of_pos ((evictable_iff s i).mpr ⟨idle, unclaimed⟩)]
  rw [State.evict, found]

theorem evict_none {s : State} (held : ∀ j ∈ s.completion, (s.slot j).rejudging = true ∨ (s.slot j).claims ≠ []) :
    s.evict = none := by
  have none : s.completion.find? s.evictable = none := List.find?_eq_none.mpr fun j mem => not_evictable_of (held j mem)
  rw [State.evict, none]

/-! ## Slots -/

theorem lowestFree_some {s : State} {i : Fin Config.slots} (free : (s.slot i).state = .free)
    (lower : ∀ j, j < i → (s.slot j).state ≠ .free) : s.lowestFree = some i := by
  unfold State.lowestFree
  cases found : slotOrder.find? fun j => decide ((s.slot j).state = .free) with
  | none => exact absurd (decide_eq_true free) (List.find?_eq_none.mp found i (List.mem_finRange i))
  | some j =>
    have free_j : (s.slot j).state = .free := by simpa using List.find?_some found
    rcases lt_trichotomy j i with below | same | above
    · exact absurd free_j (lower j below)
    · rw [same]
    · obtain ⟨-, before, after, order, none⟩ := List.find?_eq_some_iff_append.mp found
      have ordered := slotOrder_pairwise
      rw [order, List.pairwise_append] at ordered
      have mem : i ∈ before ++ j :: after := order ▸ List.mem_finRange i
      rcases List.mem_append.mp mem with earlier | later
      · have passed := none i earlier
        simp [free] at passed
      · rcases List.mem_cons.mp later with same | after_j
        · exact absurd same (ne_of_lt above)
        · exact absurd (List.rel_of_pairwise_cons ordered.2.1 after_j) (lt_asymm above)

theorem lowestFree_none {s : State} (live : ∀ i, (s.slot i).state ≠ .free) : s.lowestFree = none :=
  List.find?_eq_none.mpr fun i _ free => live i (of_decide_eq_true free)

/-- With a FREE slot the lowest is taken, and nothing is evicted. -/
theorem allocSlot_lowest {s : State} {i : Fin Config.slots} (free : (s.slot i).state = .free)
    (lower : ∀ j, j < i → (s.slot j).state ≠ .free) : s.allocSlot = some (i, s) := by
  rw [State.allocSlot, lowestFree_some free lower]

/-- The one record freed among live ones is the lowest FREE slot. -/
theorem lowestFree_freed {s : State} (live : ∀ j, (s.slot j).state ≠ .free) (i : Fin Config.slots) (k : NoticeKind)
    (subject : Subject) : ((s.freeRecord i).raise k subject).lowestFree = some i := by
  refine lowestFree_some ?_ fun j below => ?_
  · rw [raise_slot, freeRecord_slot_same]
    rfl
  · rw [raise_slot, freeRecord_slot_other _ _ _ (ne_of_gt below)]
    exact live j

/-- With no FREE slot an allocation takes the slot that an eviction frees, if eviction is on. -/
theorem allocSlot_evicts {s : State} (live : ∀ j, (s.slot j).state ≠ .free) : s.allocSlot =
    if s.eviction then s.evict.bind fun t => t.lowestFree.map fun i => (i, t) else none := by
  rw [State.allocSlot, lowestFree_none live]
  dsimp only
  split
  · cases s.evict <;> rfl
  · rfl

/-- What an allocation without a FREE slot leaves: the evicted record's slot FREE in its next generation, every other slot as it was. -/
theorem allocSlot_evicted {s t : State} {i : Fin Config.slots} (live : ∀ j, (s.slot j).state ≠ .free)
    (taken : s.allocSlot = some (i, t)) :
    t.slot i = Record.free ((s.slot i).generation + 1) ∧ ∀ j, j ≠ i → t.slot j = s.slot j := by
  rw [allocSlot_evicts live] at taken
  split at taken
  · obtain ⟨u, evicted, lowest⟩ := Option.bind_eq_some_iff.mp taken
    obtain ⟨j, -, -, -, rfl⟩ := evict_some evicted
    rw [lowestFree_freed live] at lowest
    obtain ⟨rfl, rfl⟩ := Prod.mk.inj (Option.some.inj lowest)
    exact ⟨freeRecord_slot_same s j, fun k other => freeRecord_slot_other s j k other.symm⟩
  · exact absurd taken (by simp)

/-! ## Allocation beside the ring port -/

theorem evict_setRing (s : State) (r : RingPort) : (s.setRing r).evict = s.evict.map fun t => t.setRing r := by
  have same : (s.setRing r).completion.find? (s.setRing r).evictable = s.completion.find? s.evictable := rfl
  unfold State.evict
  rw [same]
  cases s.completion.find? s.evictable <;> rfl

/-- An allocation does not look at the ring port. -/
theorem allocSlot_setRing (s : State) (r : RingPort) :
    (s.setRing r).allocSlot = s.allocSlot.map fun taken => (taken.1, taken.2.setRing r) := by
  have free : (s.setRing r).lowestFree = s.lowestFree := rfl
  unfold State.allocSlot
  rw [free, evict_setRing]
  cases s.lowestFree with
  | some i => rfl
  | none =>
    dsimp only
    have eviction : (s.setRing r).eviction = s.eviction := rfl
    rw [eviction]
    split
    · cases s.evict with
      | none => rfl
      | some t =>
        have after : (t.setRing r).lowestFree = t.lowestFree := rfl
        dsimp only [Option.map]
        rw [after]
        cases t.lowestFree <;> rfl
    · rfl

/-! ## Strips -/

theorem evictForStrip_met {s : State} (strips : s.freeStrips ≠ 0) : ∀ n, State.evictForStrip n s = s
  | 0 => rfl
  | _ + 1 => by rw [State.evictForStrip, if_neg strips]

theorem evictForStrip_unmet {s : State} (none : s.evict = none) : ∀ n, State.evictForStrip n s = s
  | 0 => rfl
  | _ + 1 => by
    rw [State.evictForStrip, none]
    split <;> rfl

theorem seekStrip_off {s : State} (off : s.eviction = false) : s.seekStrip = s := by
  rw [State.seekStrip, off]
  rfl

theorem seekStrip_met {s : State} (strips : s.freeStrips ≠ 0) : s.seekStrip = s := by
  rw [State.seekStrip, evictForStrip_met strips]
  split <;> rfl

theorem seekStrip_unmet {s : State} (none : s.evict = none) : s.seekStrip = s := by
  rw [State.seekStrip, evictForStrip_unmet none]
  split <;> rfl

/-- A seeking with the pool empty frees the oldest eligible record, and goes on from there. -/
theorem seekStrip_evicts {s : State} {i : Fin Config.slots} {k : NoticeKind} {subject : Subject} (empty : s.freeStrips = 0)
    (on : s.eviction = true) (once : s.completion.Nodup) (mem : i ∈ s.completion)
    (evicted : s.evict = some ((s.freeRecord i).raise k subject)) :
    s.seekStrip = ((s.freeRecord i).raise k subject).seekStrip := by
  have shorter : s.completion.length = ((s.freeRecord i).raise k subject).completion.length + 1 := by
    have erased := List.length_erase_of_mem mem
    rw [once.erase_eq_filter] at erased
    have some_place := List.length_pos_of_mem mem
    have filtered : ((s.freeRecord i).raise k subject).completion = s.completion.filter fun j => j != i := by
      rw [raise_completion, freeRecord_completion]
      exact congrArg (fun p => s.completion.filter p) (funext fun j => decide_not)
    rw [filtered]
    omega
  have still_on : ((s.freeRecord i).raise k subject).eviction = true := on
  rw [State.seekStrip, if_pos on, State.seekStrip, if_pos still_on, shorter, State.evictForStrip, if_pos empty, evicted]

/-- Settles O12: slots, the search for a strip, and the taking of strips one at a time. -/
theorem allocationEvictsOldest : Obligations.AllocationEvictsOldest := by
  refine ⟨fun s => ⟨fun i => allocSlot_lowest, fun live => ⟨fun before i after order on held idle unclaimed => ?_,
    fun reason => ?_⟩⟩, fun s => ⟨fun reason => ?_, fun held => seekStrip_unmet (evict_none held),
    fun before i after empty on once order held idle unclaimed => ?_⟩,
    fun s i => ⟨rfl, fun n empty => ?_, fun n strips => ?_⟩⟩
  · rw [allocSlot_evicts live, if_pos on, evict_oldest order held idle unclaimed, Option.bind_some, lowestFree_freed live]
    rfl
  · rw [allocSlot_evicts live]
    rcases reason with off | held
    · rw [off]
      rfl
    · rw [evict_none held]
      split <;> rfl
  · rcases reason with strips | off
    · exact seekStrip_met (Nat.ne_of_gt strips)
    · exact seekStrip_off off
  · have sought := seekStrip_evicts empty on once (by simp [order]) (evict_oldest order held idle unclaimed)
    refine ⟨fun strips => sought.trans (seekStrip_met ?_), fun _ => sought⟩
    rw [raise_freeStrips, freeRecord_freeStrips, empty, Nat.zero_add]
    exact Nat.ne_of_gt (List.length_pos_iff.mpr strips)
  · rw [allocStrips_succ, if_pos empty]
  · rw [allocStrips_succ, if_neg (Nat.ne_of_gt strips)]
    rfl

/-! ## The shell fields -/

theorem within_eq_false {lo hi v : Nat} : within lo hi v = false ↔ v < lo ∨ hi < v := by
  rw [within, decide_eq_false_iff_not]
  omega

theorem firstBad_within (n lo hi v : Nat) (rest : List Bool) :
    firstBad n (within lo hi v :: rest) = if v < lo ∨ hi < v then some n else firstBad (n + 1) rest := by
  by_cases bad : v < lo ∨ hi < v
  · rw [if_pos bad, firstBad_false (within_eq_false.mpr bad)]
  · rw [if_neg bad, firstBad_true (Bool.eq_true_of_not_eq_false fun is => bad (within_eq_false.mp is))]

theorem handOf_isSome (b : Byte) : (handOf b).isSome = within 0 1 b.toNat := by
  have zero : b = 0 ↔ b.toNat = 0 := BitVec.toNat_inj.symm
  have one : b = 1 ↔ b.toNat = 1 := BitVec.toNat_inj.symm
  simp only [handOf, within, zero, one]
  split
  · simp [*]
  · split
    · simp [*]
    · simp
      omega

/-- The first of the seven shell fields out of its range, counted from `n`. -/
theorem shellChecks_eq (n : Nat) (f : ShellFields) : firstBad n (ShellFields.checks f) =
    if 31 < f.grade.toNat then some n else if 3 < f.limitSet.toNat then some (n + 1)
    else if 1 < f.hand.toNat then some (n + 2) else if f.pitch.toNat < 10 ∨ 200 < f.pitch.toNat then some (n + 3)
    else if f.nominal.toNat < 2000 ∨ 100000 < f.nominal.toNat then some (n + 4)
    else if 63 < f.leadCrop.toNat then some (n + 5) else if 63 < f.tailCrop.toNat then some (n + 6) else none := by
  simp only [ShellFields.checks, handOf_isSome, firstBad_within, Nat.not_lt_zero, false_or]
  rfl

/-- The seven shell fields are in range. -/
structure ShellInRange (f : ShellFields) : Prop where
  grade : f.grade.toNat ≤ 31
  limitSet : f.limitSet.toNat ≤ 3
  hand : f.hand.toNat ≤ 1
  pitch : 10 ≤ f.pitch.toNat ∧ f.pitch.toNat ≤ 200
  nominal : 2000 ≤ f.nominal.toNat ∧ f.nominal.toNat ≤ 100000
  leadCrop : f.leadCrop.toNat ≤ 63
  tailCrop : f.tailCrop.toNat ≤ 63

theorem ShellInRange.checks {f : ShellFields} (inRange : ShellInRange f) (n : Nat) :
    firstBad n (ShellFields.checks f) = none := by
  obtain ⟨grade, limitSet, hand, ⟨pitch, pitch'⟩, ⟨nominal, nominal'⟩, leadCrop, tailCrop⟩ := inRange
  rw [shellChecks_eq, if_neg (by omega), if_neg (by omega), if_neg (by omega), if_neg (by omega), if_neg (by omega),
    if_neg (by omega), if_neg (by omega)]

theorem settings_grade {f : ShellFields} {g : Fin Config.materials} (carried : f.grade.toNat = g.val) :
    (ShellFields.settings f).grade = g := by
  simp [ShellFields.settings, carried]

theorem handOf_value {b : Byte} (small : b.toNat ≤ 1) :
    handOf b = some (if b.toNat = 0 then Hand.forward else .counter) := by
  have zero : b = 0 ↔ b.toNat = 0 := BitVec.toNat_inj.symm
  have one : b = 1 ↔ b.toNat = 1 := BitVec.toNat_inj.symm
  simp only [handOf, zero, one]
  split
  · rfl
  · rw [if_pos (by omega)]

/-! ## The template -/

theorem templateWrite_bad {f : ShellFields} {field : Nat} (bad : firstBad 1 (ShellFields.checks f) = some field)
    (s : State) : templateWrite f s = (s, .refuse .range field) := by rw [templateWrite, bad]

theorem templateWrite_good {f : ShellFields} (good : firstBad 1 (ShellFields.checks f) = none) (s : State) :
    templateWrite f s = ({ s with template := ShellFields.settings f }, .done []) := by rw [templateWrite, good]

/-- Settles O19: the values of the fields, the seven checks in order, and the seven octet groups. -/
theorem templateIsWrittenAndRead : Obligations.TemplateIsWrittenAndRead := by
  refine ⟨fun f grade limitSet hand => ⟨?_, ?_, ?_, rfl, rfl, rfl, rfl⟩, fun s h f ok => ?_, fun s h ok => ?_⟩
  · exact Nat.mod_eq_of_lt (Nat.lt_succ_of_le grade)
  · exact Nat.mod_eq_of_lt (Nat.lt_succ_of_le limitSet)
  · simp [ShellFields.settings, handOf_value hand]
  · have refused (field : Nat) (bad : firstBad 1 (ShellFields.checks f) = some field) :=
      answering_refused ok (templateWrite_bad bad _)
    have checks := shellChecks_eq 1 f
    show answering h rowTemplateWrite (templateWrite f) s = _
    dsimp only
    split_ifs at checks ⊢
    iterate 7 exact refused _ checks
    exact answering_ran ok (templateWrite_good checks _) rfl
  · exact answering_ran ok (run := reading templateRead) (t := s.frameIn) (a := .done s.template.octets) rfl rfl

/-! ## ARM -/

theorem defined_eq_false {s : State} {g : Fin Config.materials} : (!s.defined g) = true ↔ (s.material g).fields = none := by
  simp [State.defined]

theorem idHeld_iff {s : State} {id : Word} {besides : Option (Fin Config.slots)} : s.idHeld id besides = true ↔
    ∃ j, some j ≠ besides ∧ (s.slot j).state ≠ .free ∧ (s.slot j).shellId = some id := by
  simp [State.idHeld, slotOrder, live_iff, and_assoc]

/-- ARM's checks 1 to 4: the first that fails, with the outcome and the field it names. -/
def armFault (s : State) (id : Word) (f : ShellFields) : Option (ReplyCode × Nat) :=
  if 31 < f.grade.toNat then some (ReplyCode.range, 2)
  else if 3 < f.limitSet.toNat then some (.range, 3)
  else if 1 < f.hand.toNat then some (.range, 4)
  else if f.pitch.toNat < 10 ∨ 200 < f.pitch.toNat then some (.range, 5)
  else if f.nominal.toNat < 2000 ∨ 100000 < f.nominal.toNat then some (.range, 6)
  else if 63 < f.leadCrop.toNat then some (.range, 7)
  else if 63 < f.tailCrop.toNat then some (.range, 8)
  else if (s.material (ShellFields.settings f).grade).fields = none then some (.noGrade, 0)
  else if ∃ j, (s.slot j).state ≠ .free ∧ (s.slot j).shellId = some id then some (.duplicate, 0)
  else if 4 ≤ s.armQueue.length then some (.queueFull, 0)
  else none

/-- ARM answers by the first check that fails; with none it asks for a slot. -/
theorem arm_eq (id : Word) (f : ShellFields) (s : State) : arm id f s =
    match armFault s id f with
    | some (o, field) => (s, .refuse o field)
    | none => match s.allocSlot with
      | none => (s, .refuse .full)
      | some (i, t) => (t.placeArmed i id (ShellFields.settings f), .done (le 1 i ++ [(t.slot i).generation])) := by
  have held : s.idHeld id none = true ↔ ∃ j, (s.slot j).state ≠ .free ∧ (s.slot j).shellId = some id := by
    rw [idHeld_iff]
    simp
  have places : Config.armingPlaces = 4 := rfl
  simp only [arm, armFault, shellChecks_eq, defined_eq_false, held, places]
  split_ifs <;> rfl

theorem arm_refused {s : State} {id : Word} {f : ShellFields} {o : ReplyCode} {field : Nat}
    (fault : armFault s id f = some (o, field)) : arm id f s = (s, .refuse o field) := by rw [arm_eq, fault]

theorem arm_full {s : State} {id : Word} {f : ShellFields} (passes : armFault s id f = none) (none : s.allocSlot = none) :
    arm id f s = (s, .refuse .full) := by rw [arm_eq, passes, none]

theorem arm_placed {s t : State} {id : Word} {f : ShellFields} {i : Fin Config.slots} (passes : armFault s id f = none)
    (taken : s.allocSlot = some (i, t)) : arm id f s =
      (t.placeArmed i id (ShellFields.settings f), .done (le 1 i ++ [(t.slot i).generation])) := by
  rw [arm_eq, passes, taken]

/-- What the placing of an ARMED record writes. -/
theorem placeArmed_eq (s : State) (i : Fin Config.slots) (id : Word) (shell : ShellSettings) :
    s.placeArmed i id shell = State.setMaterial
      ({ s with armQueue := s.armQueue ++ [i] }.setSlot i (.made (s.slot i).generation .armed shell (some id) 0))
      shell.grade { s.material shell.grade with refs := (s.material shell.grade).refs + 1 } := rfl

/-- ARM passes its checks with its fields in range, its entry DEFINED, its id not held and room in the arming queue. -/
theorem armFault_none {s : State} {id : Word} {f : ShellFields} (inRange : ShellInRange f)
    (defined : (s.material (ShellFields.settings f).grade).fields ≠ none)
    (fresh : ∀ j, (s.slot j).state ≠ .free → (s.slot j).shellId ≠ some id) (short : s.armQueue.length < 4) :
    armFault s id f = none := by
  obtain ⟨grade, limitSet, hand, pitch, nominal, leadCrop, tailCrop⟩ := inRange
  have unheld : ¬∃ j, (s.slot j).state ≠ .free ∧ (s.slot j).shellId = some id := fun ⟨j, live, is⟩ => fresh j live is
  rw [armFault, if_neg (by omega), if_neg (by omega), if_neg (by omega), if_neg (by omega), if_neg (by omega),
    if_neg (by omega), if_neg (by omega), if_neg defined, if_neg unheld, if_neg (by omega)]

/-- Settles O10: the checks pass, the lowest FREE slot is taken, and the record is placed in it. -/
theorem armPlacesRecord : Obligations.ArmPlacesRecord := by
  intro s h id f g i ok carried limitSet hand pitch pitch' nominal nominal' leadCrop tailCrop defined fresh short free lower
  have inRange : ShellInRange f :=
    ⟨carried ▸ Nat.le_of_lt_succ g.isLt, limitSet, hand, ⟨pitch, pitch'⟩, ⟨nominal, nominal'⟩, leadCrop, tailCrop⟩
  have grade := settings_grade carried
  have passes : armFault s.frameIn id f = none := armFault_none inRange (grade ▸ defined) fresh short
  have taken : s.frameIn.allocSlot = some (i, s.frameIn) := allocSlot_lowest free lower
  have ran := answering_ran ok (arm_placed passes taken) rfl
  simp only [placeArmed_eq, grade] at ran
  exact ran

/-- Settles O11: the refusals at the checks, and an ARM that has to evict. -/
theorem armRefusesOrEvicts : Obligations.ArmRefusesOrEvicts := by
  refine ⟨fun s h id f o field ok fault => answering_refused ok (arm_refused fault),
    fun s h id f ok grade limitSet hand pitch pitch' nominal nominal' leadCrop tailCrop defined fresh short live =>
      ⟨fun i t taken => ?_, fun none => ?_⟩⟩
  all_goals
    have passes : armFault s.frameIn id f = Option.none :=
      armFault_none ⟨grade, limitSet, hand, ⟨pitch, pitch'⟩, ⟨nominal, nominal'⟩, leadCrop, tailCrop⟩ defined fresh short
    have beside := allocSlot_setRing s s.ring.frame
  · rw [taken] at beside
    obtain ⟨freed, others⟩ := allocSlot_evicted live taken
    have generation : (t.slot i).generation = (s.slot i).generation + 1 := by rw [freed]; rfl
    have ran := answering_ran ok (arm_placed passes beside) rfl
    simp only [placeArmed_eq, setRing_slot, generation] at ran
    refine ⟨ran, ?_, fun j other => ?_, rfl, rfl, rfl⟩
    · exact setSlot_slot_same _ _ _
    · exact (setSlot_slot_other _ _ _ _ other.symm).trans (others j other)
  · rw [none] at beside
    exact answering_refused ok (arm_full passes beside)

end Sys2Proof.Proofs

/-! SUPPORT. AMEND: its checks in field-list order, and what it changes. -/

namespace Sys2Proof.Proofs

open Sys2Proof.Machine Sys2Proof.Laws

/-! ## The checks of the selected fields -/

theorem firstFault_if {α : Type} (c : Prop) [Decidable c] (x : α) (y : Option α) (rest : List (Option α)) :
    ((if c then some x else y) :: rest).findSome? id = if c then some x else (y :: rest).findSome? id := by
  split <;> rfl

theorem firstFault_none {α : Type} (rest : List (Option α)) : (none :: rest).findSome? id = rest.findSome? id := rfl

/-- A selected value that must lie in a range. -/
theorem ifSelected_range {w : Nat} (field lo hi : Nat) (v : Option (BitVec w)) :
    ifSelected field v (fun v => rangeIf (within lo hi v.toNat)) =
      if (v.any fun v => decide (v.toNat < lo ∨ hi < v.toNat)) = true then some (field, ReplyCode.range) else none := by
  cases v with
  | none => rfl
  | some x =>
    simp only [ifSelected, rangeIf, Option.any_some, decide_eq_true_eq]
    by_cases bad : x.toNat < lo ∨ hi < x.toNat
    · rw [within_eq_false.mpr bad, if_pos bad]
      rfl
    · rw [Bool.eq_true_of_not_eq_false fun is => bad (within_eq_false.mp is), if_neg bad]
      rfl

/-- A selected value that must not pass a greatest one. -/
theorem ifSelected_upTo {w : Nat} (field hi : Nat) (v : Option (BitVec w)) :
    ifSelected field v (fun v => rangeIf (within 0 hi v.toNat)) =
      if (v.any fun v => decide (hi < v.toNat)) = true then some (field, ReplyCode.range) else none := by
  rw [ifSelected_range]
  simp only [Nat.not_lt_zero, false_or]

/-- A selected value of a field that only ARMED records may change. -/
theorem ifSelected_armedOnly {α : Type} (field : Nat) (v : Option α) (st : LifeState) (further : α → Option ReplyCode) :
    ifSelected field v (fun v => armedOnly st (further v)) =
      if v ≠ none ∧ ¬st = .armed then some (field, ReplyCode.state) else ifSelected field v further := by
  cases v with
  | none => simp [ifSelected]
  | some x => by_cases armed : st = .armed <;> simp [ifSelected, armedOnly, armed]

theorem ifSelected_id (s : State) (i : Fin Config.slots) (v : Option Word) :
    ifSelected 1 v (fun v => if s.idHeld v (some i) then some .duplicate else none) =
      if (v.any fun v => decide (∃ j, j ≠ i ∧ (s.slot j).state ≠ .free ∧ (s.slot j).shellId = some v)) = true then
        some (1, ReplyCode.duplicate)
      else none := by
  cases v with
  | none => rfl
  | some x =>
    have held : s.idHeld x (some i) = true ↔ ∃ j, j ≠ i ∧ (s.slot j).state ≠ .free ∧ (s.slot j).shellId = some x := by
      rw [idHeld_iff]
      simp
    simp only [ifSelected, Option.any_some, decide_eq_true_eq, held]
    split <;> rfl

theorem entryOf_none {b : Byte} : entryOf b = none ↔ 31 < b.toNat := by
  unfold entryOf
  have entries : Config.materials = 32 := rfl
  split <;> simp <;> omega

theorem ifSelected_grade (s : State) (v : Option Byte) :
    ifSelected 4 v s.gradeCheck =
      if (v.any fun v => decide (31 < v.toNat)) = true then some (4, ReplyCode.range)
      else if (v.any fun v => decide (∃ g : Fin Config.materials, g.val = v.toNat ∧ (s.material g).fields = none)) = true then
        some (4, .noGrade)
      else none := by
  cases v with
  | none => rfl
  | some x =>
    simp only [ifSelected, State.gradeCheck, Option.any_some, decide_eq_true_eq, ← entryOf_none]
    cases entry : entryOf x with
    | none => rfl
    | some e =>
      have number := entryOf_some.mp entry
      have undefined : (∃ g : Fin Config.materials, g.val = x.toNat ∧ (s.material g).fields = none) ↔
          (!s.defined e) = true := by
        rw [defined_eq_false]
        refine ⟨fun ⟨g, is, bare⟩ => ?_, fun bare => ⟨e, number.symm, bare⟩⟩
        rwa [Fin.ext (is.trans number)] at bare
      simp only [undefined, reduceCtorEq, if_false]
      cases s.defined e <;> rfl

theorem clearable_iff (v : Half) : v &&& ~~~clearable = 0 ↔ v.toNat < 512 := by
  rw [and_not_mask_eq_zero (out := fun k => 9 ≤ k) (by decide)]
  constructor
  · intro clear
    have value : v.toNat % 2 ^ 9 = v.toNat := by
      apply Nat.eq_of_testBit_eq
      intro k
      rw [Nat.testBit_mod_two_pow]
      by_cases low : k < 9
      · simp [low]
      · have bit : v.toNat.testBit k = false := clear k (Nat.not_lt.mp low)
        simp [low, bit]
    omega
  · intro small k beyond
    have bound : 2 ^ 9 ≤ 2 ^ k := Nat.pow_le_pow_right (Nat.zero_lt_two) beyond
    exact Nat.testBit_lt_two_pow (lt_of_lt_of_le small bound)

theorem ifSelected_clear (v : Option Half) :
    ifSelected 9 v (fun v => rangeIf (decide (v &&& ~~~clearable = 0))) =
      if (v.any fun v => decide (512 ≤ v.toNat)) = true then some (9, ReplyCode.range) else none := by
  cases v with
  | none => rfl
  | some x =>
    simp only [ifSelected, rangeIf, Option.any_some, decide_eq_true_eq, clearable_iff]
    by_cases small : x.toNat < 512
    · rw [if_pos small, if_neg (by omega)]
      rfl
    · rw [if_neg small, if_pos (by omega)]
      rfl

/-- AMEND's refusal of a resolved record: the first check that fails, with the outcome and the field it names. -/
def amendRefusal (s : State) (i : Fin Config.slots) (f : AmendFields) : Option (ReplyCode × Nat) :=
  if (s.slot i).retirePending = true then some (ReplyCode.state, 0)
  else if (s.slot i).rejudging = true then some (.busy, 0)
  else if (f.shellId.any fun v => decide (∃ j, j ≠ i ∧ (s.slot j).state ≠ .free ∧ (s.slot j).shellId = some v)) = true then
    some (.duplicate, 1)
  else if (f.limitSet.any fun v => decide (3 < v.toNat)) = true then some (.range, 2)
  else if (f.tailCrop.any fun v => decide (63 < v.toNat)) = true then some (.range, 3)
  else if f.grade ≠ none ∧ ¬(s.slot i).state = .armed then some (.state, 4)
  else if (f.grade.any fun v => decide (31 < v.toNat)) = true then some (.range, 4)
  else if (f.grade.any fun v => decide (∃ g : Fin Config.materials, g.val = v.toNat ∧ (s.material g).fields = none)) = true then
    some (.noGrade, 4)
  else if f.hand ≠ none ∧ ¬(s.slot i).state = .armed then some (.state, 5)
  else if (f.hand.any fun v => decide (1 < v.toNat)) = true then some (.range, 5)
  else if f.pitch ≠ none ∧ ¬(s.slot i).state = .armed then some (.state, 6)
  else if (f.pitch.any fun v => decide ((v.toNat < 10 ∨ 200 < v.toNat))) = true then some (.range, 6)
  else if f.nominal ≠ none ∧ ¬(s.slot i).state = .armed then some (.state, 7)
  else if (f.nominal.any fun v => decide ((v.toNat < 2000 ∨ 100000 < v.toNat))) = true then some (.range, 7)
  else if f.leadCrop ≠ none ∧ ¬(s.slot i).state = .armed then some (.state, 8)
  else if (f.leadCrop.any fun v => decide (63 < v.toNat)) = true then some (.range, 8)
  else if (f.clearHistory.any fun v => decide (512 ≤ v.toNat)) = true then some (.range, 9)
  else none

/-- The checks of the selected fields, in field-list order. -/
theorem amendFault_eq {s : State} {i : Fin Config.slots} (f : AmendFields) (open_ : (s.slot i).retirePending = false)
    (idle : (s.slot i).rejudging = false) : (s.amendFault i f).map Prod.swap = amendRefusal s i f := by
  rw [amendRefusal, open_, idle, if_neg Bool.false_ne_true, if_neg Bool.false_ne_true, State.amendFault]
  simp only [handOf_isSome]
  rw [ifSelected_id, ifSelected_upTo, ifSelected_upTo, ifSelected_armedOnly, ifSelected_grade, ifSelected_armedOnly,
    ifSelected_upTo, ifSelected_armedOnly, ifSelected_range, ifSelected_armedOnly, ifSelected_range, ifSelected_armedOnly,
    ifSelected_upTo, ifSelected_clear]
  simp only [firstFault_if, firstFault_none, List.findSome?_nil, apply_ite (Option.map Prod.swap), Option.map_some,
    Option.map_none, Prod.swap]

/-- The record after an AMEND of the selected fields, with the reference moved. -/
def amendRecord (s : State) (i : Fin Config.slots) (f : AmendFields) : State :=
  (s.moveRef (s.slot i).shell.grade (AmendFields.newGrade f (s.slot i).shell.grade)).modSlot i fun r => r.amended f

/-- AMEND answers by the first check that fails; with none it changes the selected fields. -/
theorem amend_eq (f : AmendFields) (i : Fin Config.slots) (s : State) : amend f i s =
    match amendRefusal s i f with
    | some (o, field) => (s, .refuse o field)
    | none => (amendRecord s i f, .done []) := by
  rw [amend]
  cases pending : (s.slot i).retirePending with
  | true => rw [amendRefusal, pending]; rfl
  | false =>
    cases rejudging : (s.slot i).rejudging with
    | true => rw [amendRefusal, pending, rejudging]; rfl
    | false =>
      rw [← amendFault_eq f pending rejudging]
      cases s.amendFault i f <;> rfl

/-- Settles O18: AMEND answers by its first failing check. -/
theorem amendRefusesInOrder : Obligations.AmendRefusesInOrder := by
  intro s h ref f i o field ok found armed fault
  have fault : amendRefusal s.frameIn i f = some (o, field) := fault
  exact answering_refused ok ((withRecord_ok found (amend f)).trans (by rw [amend_eq, fault]))

/-! ## What AMEND changes -/

theorem unnamed_bit {k : Nat} (inside : k < 10) : HistoryFlag.unnamed.mask.getLsbD k = decide (k = 9) := by
  rw [HistoryFlag.mask, BitVec.getLsbD_twoPow]
  simp only [HistoryFlag.code]
  rcases Nat.lt_or_ge k 9 with below | top
  · simp [Nat.ne_of_lt below, Nat.ne_of_gt below]
  · obtain rfl : k = 9 := by omega
    rfl

/-- A record that gets a new id loses UNNAMED and no other history flag. -/
theorem named_history (r : Record) (id : Option Word) {k : Nat} (inside : k < 10) :
    (r.named id).history.getLsbD k =
      (r.history.getLsbD k && !(decide (k = 9) && (id.isSome && decide (id ≠ r.shellId)))) := by
  cases id with
  | none => simp [Record.named]
  | some v =>
    by_cases same : r.shellId = some v
    · simp [Record.named, same]
    · have other : some v ≠ r.shellId := Ne.symm same
      rw [Record.named, if_neg same, BitVec.getLsbD_and, BitVec.getLsbD_not, unnamed_bit inside]
      simp [inside, other]

/-- The flags of a clear-history mask are cleared, and no other. -/
theorem clearHistory_history (r : Record) (mask : Option Half) {k : Nat} (inside : k < 10) :
    (r.clearHistory mask).history.getLsbD k = (r.history.getLsbD k && !(mask.any fun m => m.getLsbD k)) := by
  cases mask with
  | none => simp [Record.clearHistory]
  | some m =>
    rw [Record.clearHistory, BitVec.getLsbD_and, BitVec.getLsbD_not, BitVec.getLsbD_setWidth]
    simp [inside]

theorem amended_history (r : Record) (f : AmendFields) {k : Nat} (inside : k < 10) :
    (r.amended f).history.getLsbD k =
      (r.history.getLsbD k && !(decide (k = 9) && (f.shellId.isSome && decide (f.shellId ≠ r.shellId))) &&
        !(f.clearHistory.any fun m => m.getLsbD k)) := by
  have cleared := clearHistory_history (r.named f.shellId) f.clearHistory inside
  rw [named_history r f.shellId inside] at cleared
  exact cleared

theorem orHeld_eq {w : Nat} (held : Nat) (v : Option (BitVec w)) : orHeld held v = (v.map BitVec.toNat).getD held := by
  cases v <;> rfl

theorem amended_grade {f : AmendFields} {t : ShellSettings} (small : ∀ v, f.grade = some v → v.toNat < Config.materials) :
    (AmendFields.settings f t).grade.val = (f.grade.map BitVec.toNat).getD t.grade := by
  cases carried : f.grade with
  | none => simp [AmendFields.settings, AmendFields.newGrade, carried]
  | some v => simp [AmendFields.settings, AmendFields.newGrade, carried, Nat.mod_eq_of_lt (small v carried)]

theorem amended_limitSet {f : AmendFields} {t : ShellSettings} (small : ∀ v, f.limitSet = some v → v.toNat ≤ 3) :
    (AmendFields.settings f t).limitSet.val = (f.limitSet.map BitVec.toNat).getD t.limitSet := by
  cases carried : f.limitSet with
  | none => simp [AmendFields.settings, carried]
  | some v =>
    have inside : v.toNat < Config.limitSets := Nat.lt_succ_of_le (small v carried)
    simp [AmendFields.settings, carried, Nat.mod_eq_of_lt inside]

theorem amended_hand {f : AmendFields} {t : ShellSettings} (small : ∀ v, f.hand = some v → v.toNat ≤ 1) :
    (AmendFields.settings f t).hand = (f.hand.map fun v => if v.toNat = 0 then Hand.forward else .counter).getD t.hand := by
  cases carried : f.hand with
  | none => simp [AmendFields.settings, carried]
  | some v => simp [AmendFields.settings, carried, handOf_value (small v carried)]

theorem any_eq_false {α : Type} {v : Option α} {p : α → Prop} [DecidablePred p] (passes : ∀ x, v = some x → ¬p x) :
    ¬(v.any fun x => decide (p x)) = true := by
  cases v with
  | none => simp
  | some x => simpa using passes x rfl

theorem armed_of_selected {α : Type} {v : Option α} {armed : Prop} (selected : ∀ x, v = some x → armed) :
    ¬(v ≠ none ∧ ¬armed) := by
  rintro ⟨carried, unarmed⟩
  obtain ⟨x, is⟩ := Option.ne_none_iff_exists'.mp carried
  exact unarmed (selected x is)

/-- Every selected field of an AMEND passes its check. -/
structure AmendInRange (s : State) (i : Fin Config.slots) (f : AmendFields) : Prop where
  shellId : ∀ v, f.shellId = some v → ∀ j, j ≠ i → (s.slot j).state ≠ .free → (s.slot j).shellId ≠ some v
  limitSet : ∀ v, f.limitSet = some v → v.toNat ≤ 3
  tailCrop : ∀ v, f.tailCrop = some v → v.toNat ≤ 63
  grade : ∀ v, f.grade = some v → (s.slot i).state = .armed ∧
    ∃ g : Fin Config.materials, v.toNat = g.val ∧ (s.material g).fields ≠ none
  hand : ∀ v, f.hand = some v → (s.slot i).state = .armed ∧ v.toNat ≤ 1
  pitch : ∀ v, f.pitch = some v → (s.slot i).state = .armed ∧ 10 ≤ v.toNat ∧ v.toNat ≤ 200
  nominal : ∀ v, f.nominal = some v → (s.slot i).state = .armed ∧ 2000 ≤ v.toNat ∧ v.toNat ≤ 100000
  leadCrop : ∀ v, f.leadCrop = some v → (s.slot i).state = .armed ∧ v.toNat ≤ 63
  clearHistory : ∀ v, f.clearHistory = some v → v.toNat < 512

theorem AmendInRange.passes {s : State} {i : Fin Config.slots} {f : AmendFields} (fits : AmendInRange s i f)
    (open_ : (s.slot i).retirePending = false) (idle : (s.slot i).rejudging = false) : amendRefusal s i f = none := by
  have shellId := any_eq_false fun v is => show ¬∃ j, j ≠ i ∧ (s.slot j).state ≠ .free ∧ (s.slot j).shellId = some v from
    fun ⟨j, other, live, held⟩ => fits.shellId v is j other live held
  have limitSet := any_eq_false fun v is => Nat.not_lt.mpr (fits.limitSet v is)
  have tailCrop := any_eq_false fun v is => Nat.not_lt.mpr (fits.tailCrop v is)
  have entry := any_eq_false (p := fun v : Byte => 31 < v.toNat) fun v is => by
    obtain ⟨-, g, number, -⟩ := fits.grade v is
    exact Nat.not_lt.mpr (number ▸ Nat.le_of_lt_succ g.isLt)
  have defined := any_eq_false
      (p := fun v : Byte => ∃ g : Fin Config.materials, g.val = v.toNat ∧ (s.material g).fields = none) fun v is => by
    obtain ⟨-, g, number, defined⟩ := fits.grade v is
    rintro ⟨e, same, bare⟩
    exact defined (Fin.ext (same.trans number) ▸ bare)
  have hand := any_eq_false fun v is => Nat.not_lt.mpr (fits.hand v is).2
  have pitch := any_eq_false (p := fun v : Half => v.toNat < 10 ∨ 200 < v.toNat) fun v is => by
    have := (fits.pitch v is).2
    omega
  have nominal := any_eq_false (p := fun v : Word => v.toNat < 2000 ∨ 100000 < v.toNat) fun v is => by
    have := (fits.nominal v is).2
    omega
  have leadCrop := any_eq_false fun v is => Nat.not_lt.mpr (fits.leadCrop v is).2
  have clearHistory := any_eq_false fun v is => Nat.not_le.mpr (fits.clearHistory v is)
  rw [amendRefusal, open_, idle, if_neg Bool.false_ne_true, if_neg Bool.false_ne_true, if_neg shellId, if_neg limitSet,
    if_neg tailCrop, if_neg (armed_of_selected fun v is => (fits.grade v is).1), if_neg entry, if_neg defined,
    if_neg (armed_of_selected fun v is => (fits.hand v is).1), if_neg hand,
    if_neg (armed_of_selected fun v is => (fits.pitch v is).1), if_neg pitch,
    if_neg (armed_of_selected fun v is => (fits.nominal v is).1), if_neg nominal,
    if_neg (armed_of_selected fun v is => (fits.leadCrop v is).1), if_neg leadCrop, if_neg clearHistory]

theorem amendRecord_slot_same (s : State) (i : Fin Config.slots) (f : AmendFields) :
    (amendRecord s i f).slot i = (s.slot i).amended f := by
  rw [amendRecord, modSlot_slot_same, moveRef_slot]

theorem amendRecord_slot_other (s : State) {i j : Fin Config.slots} (f : AmendFields) (other : j ≠ i) :
    (amendRecord s i f).slot j = s.slot j := by
  rw [amendRecord, modSlot_slot_other _ _ _ _ other.symm, moveRef_slot]

theorem amendRecord_material (s : State) (i : Fin Config.slots) (f : AmendFields) (g : Fin Config.materials) :
    (amendRecord s i f).material g =
      (s.moveRef (s.slot i).shell.grade (AmendFields.newGrade f (s.slot i).shell.grade)).material g := rfl

/-- An AMEND changes the record and the reference counts alone. -/
theorem amendRecord_eq (s : State) (i : Fin Config.slots) (f : AmendFields) : amendRecord s i f =
    { s with slots := (amendRecord s i f).slots, materials := (amendRecord s i f).materials } := by
  unfold amendRecord State.moveRef
  split <;> rfl

/-- Settles O17: the checks pass, and each field of the amended record is the carried one or the held one. -/
theorem amendChangesSelectedFields : Obligations.AmendChangesSelectedFields := by
  intro s h ref f i ok found open_ idle shellId limitSet tailCrop grade hand pitch nominal leadCrop clearHistory
  have passes : amendRefusal s.frameIn i f = none :=
    (AmendInRange.mk shellId limitSet tailCrop grade hand pitch nominal leadCrop clearHistory).passes open_ idle
  have ran : withRecord ref (amend f) s.frameIn = (amendRecord s.frameIn i f, .done []) :=
    (withRecord_ok found _).trans (by rw [amend_eq, passes])
  have ring : (amendRecord s.frameIn i f).ring = s.frameIn.ring := by rw [amendRecord_eq]
  have record := amendRecord_slot_same s.frameIn i f
  rw [frameIn_slot] at record
  refine ⟨amendRecord s.frameIn i f, answering_ran ok ran ring, fun j other => amendRecord_slot_other _ f other, ?_⟩
  rw [record]
  refine ⟨?_, amended_shellId _ f, fun k below => ?_, ?_, ?_, ?_, ?_, orHeld_eq .., orHeld_eq .., orHeld_eq ..,
    orHeld_eq .., fun g => ?_, amendRecord_eq ..⟩
  · exact amended_eq _ f
  · rw [amended_history _ f (by omega), decide_eq_false (Nat.ne_of_lt below), Bool.false_and, Bool.not_false, Bool.and_true]
  · have kept : (f.clearHistory.any fun m => m.getLsbD 9) = false := by
      cases carried : f.clearHistory with
      | none => rfl
      | some m => exact Nat.testBit_lt_two_pow (clearHistory m carried)
    rw [amended_history _ f (by omega), kept, Bool.not_false, Bool.and_true, decide_eq_true rfl, Bool.true_and]
  · exact amended_grade fun v is => by
      obtain ⟨-, g, number, -⟩ := grade v is
      exact number ▸ g.isLt
  · exact amended_limitSet limitSet
  · exact amended_hand fun v is => (hand v is).2
  · have graded : ((s.slot i).amended f).shell.grade = AmendFields.newGrade f (s.slot i).shell.grade := rfl
    rw [amendRecord_material, moveRef_material, graded, frameIn_slot]
    simp only [eq_comm (a := AmendFields.newGrade f _), frameIn_material]
    split_ifs <;> exact ⟨rfl, rfl⟩

end Sys2Proof.Proofs

/-! SUPPORT. The edges of the ENTRY line, a stall, and the values after RESTART and power-on. -/

namespace Sys2Proof.Proofs

open Sys2Proof.Machine Sys2Proof.Laws

/-! ## Edges without a debounce interval -/

theorem litEdge_quiet {s : State} (quiet : s.tracker.entry = .lit ∨ s.tracker.candidate = none) :
    exec .litEdge s = .next s := by
  show execLitEdge s = _
  rw [execLitEdge]
  rcases quiet with entry | none
  · rw [entry]
  · rw [none]
    cases s.tracker.entry <;> rfl

theorem darkEdge_quiet {s : State} (quiet : s.tracker.entry = .dark ∨ s.tracker.candidate = none) :
    exec .darkEdge s = .next s := by
  show execDarkEdge s = _
  rw [execDarkEdge]
  rcases quiet with entry | none
  · rw [entry]
  · rw [none]
    cases s.tracker.entry <;> rfl

theorem litEdge_arrives {s : State} {edge : Word} (entry : s.tracker.entry = .dark)
    (candidate : s.tracker.candidate = some edge) :
    exec .litEdge s = .next ((s.setTracker (s.tracker.takeEdge .lit)).arrival edge) := by
  show execLitEdge s = _
  rw [execLitEdge, entry, candidate]

theorem darkEdge_departs {s : State} {edge : Word} (entry : s.tracker.entry = .lit)
    (candidate : s.tracker.candidate = some edge) :
    exec .darkEdge s = .next ((s.setTracker (s.tracker.takeEdge .dark)).departure edge) := by
  show execDarkEdge s = _
  rw [execDarkEdge, entry, candidate]

/-! ## Departures -/

theorem departure_measuring {s : State} {c : Context} (edge : Word)
    (found : s.tracker.contexts.find? (fun c => decide (c.role = .measuring)) = some c) : s.departure edge =
      State.setSlot (s.setTracker { s.tracker with
        contexts := s.tracker.contexts.map fun d => if d.slot = c.slot then d.finish edge else d }) c.slot
        { s.slot c.slot with state := .finishing, length := some (s.tracker.lengthOf c.front edge) } := by
  rw [State.departure, found]
  rfl

theorem departure_blind {s : State} (edge : Word) (finishing : ∀ c ∈ s.tracker.contexts, c.role = .finishing) :
    s.departure edge = s.setTracker (Tracker.settle { s.tracker with blind := false }) := by
  have none : s.tracker.contexts.find? (fun c => decide (c.role = .measuring)) = none := by
    rw [List.find?_eq_none]
    intro c mem
    simp [finishing c mem]
  rw [State.departure, none]

/-- The first MEASURING context of a list whose earlier ones are FINISHING. -/
theorem find_measuring {before after : List Context} {c : Context} (measuring : c.role = .measuring)
    (finishing : ∀ b ∈ before, b.role = .finishing) :
    (before ++ c :: after).find? (fun c => decide (c.role = .measuring)) = some c := by
  have none : before.find? (fun c => decide (c.role = .measuring)) = none := by
    rw [List.find?_eq_none]
    intro b mem
    simp [finishing b mem]
  rw [List.find?_append, none, Option.none_or, List.find?_cons_of_pos (by simp [measuring])]

/-- A change of the context of one slot changes that context alone. -/
theorem map_one_context {before after : List Context} {c : Context} (once : ((before ++ c :: after).map Context.slot).Nodup)
    (f : Context → Context) :
    ((before ++ c :: after).map fun d => if d.slot = c.slot then f d else d) = before ++ f c :: after := by
  rw [List.map_append, List.map_cons, List.nodup_append] at once
  obtain ⟨-, onceAfter, apart⟩ := once
  have others : ∀ cs : List Context, (∀ d ∈ cs, d.slot ≠ c.slot) →
      (cs.map fun d => if d.slot = c.slot then f d else d) = cs := by
    intro cs away
    exact (List.map_congr_left fun d mem => if_neg (away d mem)).trans (List.map_id cs)
  rw [List.map_append, List.map_cons, if_pos rfl, others before, others after]
  · intro d mem same
    exact (List.nodup_cons.mp onceAfter).1 (same ▸ List.mem_map_of_mem mem)
  · intro d mem same
    exact apart _ (List.mem_map_of_mem mem) _ List.mem_cons_self same

/-- Settles O21: the raw level, the edge that ends a MEASURING context, the edge without one, and no edge. -/
theorem entryEdgesFollowLevel : Obligations.EntryEdgesFollowLevel := by
  refine ⟨fun s => ⟨s.tracker.raw.other, ?_, rfl⟩, fun s => ⟨?_, ?_, darkEdge_quiet⟩⟩
  · cases s.tracker.raw <;> decide
  · intro edge before c after entry candidate contexts measuring finishing once
    have found : (s.setTracker (s.tracker.takeEdge .dark)).tracker.contexts.find?
        (fun c => decide (c.role = .measuring)) = some c := by
      rw [setTracker_tracker, Tracker.takeEdge, contexts]
      exact find_measuring measuring finishing
    have changed := map_one_context (contexts ▸ once) fun d => d.finish edge
    rw [← contexts] at changed
    rw [darkEdge_departs entry candidate, departure_measuring edge found]
    have same : (s.setTracker (s.tracker.takeEdge .dark)).tracker.contexts = s.tracker.contexts := rfl
    rw [same, changed]
    rfl
  · intro edge entry candidate finishing
    rw [darkEdge_departs entry candidate, departure_blind (s := s.setTracker (s.tracker.takeEdge .dark)) edge finishing]
    by_cases none : s.tracker.contexts = [] <;>
      simp [Tracker.settle, Tracker.takeEdge, State.setTracker, none]

/-! ## Arrivals -/

theorem settle_running {t : Tracker} (open_ : t.contexts ≠ [] ∨ t.blind = true) :
    t.settle = { t with stallTimer := .running } := by
  rw [Tracker.settle, if_pos open_]

/-- Room for an arrival is there with fewer than two contexts open. -/
theorem makeRoom_short {s : State} (short : s.tracker.contexts.length < 2) : s.makeRoom = s := by
  unfold State.makeRoom
  split
  · rename_i contexts
    rw [contexts] at short
    simp at short
  · rfl

/-- With two contexts open an arrival completes the older record first. -/
theorem makeRoom_full {s : State} {older newer : Context} {more : List Context}
    (contexts : s.tracker.contexts = older :: newer :: more) : s.makeRoom = s.cutShort older.slot := by
  unfold State.makeRoom
  rw [contexts]

theorem seekRecord_armed {s : State} {i : Fin Config.slots} {rest : List (Fin Config.slots)}
    (queue : s.armQueue = i :: rest) : s.seekRecord = (s.bindArmed i rest, some i) := by
  rw [State.seekRecord, queue]

theorem seekRecord_none {s : State} (queue : s.armQueue = [])
    (reason : (s.material s.template.grade).fields = none ∨ s.allocSlot = none) :
    s.seekRecord = (s.raise .unrecorded .none, none) := by
  rw [State.seekRecord, queue]
  dsimp only
  rcases reason with bare | full
  · rw [if_neg]
    simpa using defined_eq_false.mpr bare
  · rw [full]
    split <;> rfl

theorem seekRecord_anonymous {s t : State} {i : Fin Config.slots} (queue : s.armQueue = [])
    (defined : (s.material s.template.grade).fields ≠ none) (taken : s.allocSlot = some (i, t)) :
    s.seekRecord = (t.placeAnonymous i, some i) := by
  have holds : s.defined s.template.grade = true := by
    by_contra bare
    exact defined (defined_eq_false.mp (by simpa using bare))
  rw [State.seekRecord, queue]
  dsimp only
  rw [if_pos holds, taken]

theorem allocSlot_template {s t : State} {i : Fin Config.slots} (taken : s.allocSlot = some (i, t)) :
    t.template = s.template := by
  refine allocSlot_keeps (P := fun u => u.template = s.template) (fun u v same evicted => ?_) rfl taken
  obtain ⟨j, -, -, -, rfl⟩ := evict_some evicted
  exact same

theorem openPassage_record (s : State) (edge : Word) (i : Fin Config.slots) : s.openPassage edge (some i) =
    s.setTracker { s.tracker with
      stallTimer := .running
      contexts := s.tracker.contexts ++
        [{ slot := i, generation := (s.slot i).generation, front := edge, tail := none, role := .measuring }] } :=
  congrArg s.setTracker (settle_running (.inl (by simp)))

theorem openPassage_blind (s : State) (edge : Word) :
    s.openPassage edge none = s.setTracker { s.tracker with blind := true, stallTimer := .running } :=
  congrArg s.setTracker (settle_running (.inr rfl))

theorem cutShort_mask : HistoryFlag.cutShort.mask = 0x040#10 := by decide

/-- Settles O22: room is made, and the passage is that of the armed record, of an anonymous one, or blind. -/
theorem litEdgeOpensPassage : Obligations.LitEdgeOpensPassage := by
  refine fun s => ⟨fun edge u entry candidate made => ?_, litEdge_quiet⟩
  have room : (s.setTracker (s.tracker.takeEdge .lit)).makeRoom = u := by
    rcases made with ⟨short, rfl⟩ | ⟨older, newer, more, contexts, rfl⟩
    · exact makeRoom_short short
    · rw [makeRoom_full (s := s.setTracker (s.tracker.takeEdge .lit)) contexts, State.cutShort, ← cutShort_mask]
      rfl
  have arrives : exec .litEdge s = .next (u.seekRecord.1.openPassage edge u.seekRecord.2) := by
    rw [litEdge_arrives entry candidate, State.arrival, room]
  refine ⟨fun i rest queue => ?_, fun queue reason => ?_, fun i v queue defined taken => ?_⟩
  · rw [arrives, seekRecord_armed queue, openPassage_record, State.bindArmed, modSlot_slot_same]
    rfl
  · rw [arrives, seekRecord_none queue reason, openPassage_blind]
    rfl
  · rw [arrives, seekRecord_anonymous queue defined taken, openPassage_record, placeAnonymous_slot_same,
      ← allocSlot_template taken]
    rfl

/-! ## Stalls -/

theorem subjectOf_congr {s t : State} {i : Fin Config.slots} (id : (t.slot i).shellId = (s.slot i).shellId)
    (generation : (t.slot i).generation = (s.slot i).generation) : t.subjectOf i = s.subjectOf i := by
  rw [State.subjectOf, State.subjectOf, id, generation]

/-- What a raise makes of the notice unit depends on the notice unit alone. -/
theorem raise_notices_congr {s t : State} (same : s.notices = t.notices) (k : NoticeKind) (subject : Subject) :
    (s.raise k subject).notices = (t.raise k subject).notices := by
  simp only [State.raise, setNotices_notices, same]

theorem foldl_raise_notices_congr {s t : State} (same : s.notices = t.notices) (k : NoticeKind) (subject : Context → Subject)
    (cs : List Context) : (cs.foldl (fun u c => u.raise k (subject c)) s).notices =
      (cs.foldl (fun u c => u.raise k (subject c)) t).notices := by
  induction cs generalizing s t with
  | nil => exact same
  | cons c rest ih => exact ih (raise_notices_congr same k _)

/-- One record's stall changes its slot, the completion order list and the notices. -/
theorem stallRecord_eq (s : State) (c : Context) : s.stallRecord c =
    { s with
      slots := (s.stallRecord c).slots, completion := s.completion ++ [c.slot]
      notices := (s.raise .shellVoid (s.subjectOf c.slot)).notices } := by
  have same : (((s.modSlot c.slot fun r => r.flag .stalled).closeAll c.slot).modSlot c.slot
      fun r => { r with state := .void, verdict := .incomplete }).notices = s.notices := rfl
  have subject : ((s.modSlot c.slot fun r => r.flag .stalled).closeAll c.slot).subjectOf c.slot = s.subjectOf c.slot := by
    have judged := (sameShell_flag (s.slot c.slot) .stalled).trans
      (sameShell_closeStrips _ (s.limit (s.slot c.slot).shell.limitSet) fun _ => true)
    refine subjectOf_congr ?_ ?_ <;> rw [closeAll_slot_same, modSlot_slot_same]
    · exact judged.shellId
    · exact judged.generation
  have raised : (s.stallRecord c).notices = (s.raise .shellVoid (s.subjectOf c.slot)).notices := by
    rw [← subject]
    exact raise_notices_congr same _ _
  rw [← raised]
  rfl

/-- The stall of a list of records: each is VOID in its slot, in the order of the list. -/
structure Stalled (s t : State) (cs : List Context) : Prop where
  whole : t = { s with
    slots := t.slots, completion := s.completion ++ cs.map Context.slot
    notices := (cs.foldl (fun u c => u.raise .shellVoid (s.subjectOf c.slot)) s).notices }
  bound : ∀ c ∈ cs, t.slot c.slot =
    { ((s.slot c.slot).flag .stalled).closeStrips (s.limit (s.slot c.slot).shell.limitSet) (fun _ => true) with
      state := .void, verdict := .incomplete }
  others : ∀ i, (∀ c ∈ cs, c.slot ≠ i) → t.slot i = s.slot i

theorem foldl_stallRecord_stalled {cs : List Context} (once : (cs.map Context.slot).Nodup) (s : State) :
    Stalled s (cs.foldl State.stallRecord s) cs := by
  induction cs generalizing s with
  | nil => exact ⟨by simp, fun _ mem => absurd mem (List.not_mem_nil), fun _ _ => rfl⟩
  | cons c rest ih =>
    obtain ⟨apart, onceRest⟩ := List.nodup_cons.mp once
    have away : ∀ d ∈ rest, c.slot ≠ d.slot := fun d mem same => apart (same ▸ List.mem_map_of_mem mem)
    have kept : ∀ d ∈ rest, (s.stallRecord c).slot d.slot = s.slot d.slot :=
      fun d mem => stallRecord_slot_other s c (away d mem)
    have stalled := ih onceRest (s.stallRecord c)
    have limits : ∀ l, (s.stallRecord c).limit l = s.limit l := fun _ => rfl
    have subjects : ∀ u : State, rest.foldl (fun u d => u.raise .shellVoid ((s.stallRecord c).subjectOf d.slot)) u =
        rest.foldl (fun u d => u.raise .shellVoid (s.subjectOf d.slot)) u := fun u =>
      List.foldl_ext _ _ u fun v d mem => by
        rw [subjectOf_congr (congrArg Record.shellId (kept d mem)) (congrArg Record.generation (kept d mem))]
    have raised : (s.stallRecord c).notices = (s.raise .shellVoid (s.subjectOf c.slot)).notices := by rw [stallRecord_eq]
    have notices := foldl_raise_notices_congr raised .shellVoid (fun d => s.subjectOf d.slot) rest
    have completion : (s.stallRecord c).completion ++ rest.map Context.slot = s.completion ++ (c :: rest).map Context.slot :=
      List.append_assoc s.completion [c.slot] _
    rw [List.foldl_cons]
    refine ⟨?_, fun d mem => ?_, fun i away => ?_⟩
    · refine stalled.whole.trans ?_
      rw [completion, subjects, notices]
      rfl
    · rcases List.mem_cons.mp mem with rfl | later
      · rw [stalled.others _ fun e mem => (away e mem).symm, stallRecord_slot_same]
      · rw [stalled.bound d later, kept d later, limits]
    · rw [stalled.others i fun d mem => away d (List.mem_cons_of_mem _ mem),
        stallRecord_slot_other s c (away c List.mem_cons_self)]

theorem stalled_mask : HistoryFlag.stalled.mask = 0x002#10 := by decide

/-- Settles O26: the records of the open contexts in turn, then the passages and the notice. -/
theorem stallVoidsRecords : Obligations.StallVoidsRecords := by
  intro s
  have stall : exec .stall s = .next (if s.tracker.contexts ≠ [] ∨ s.tracker.blind then s.stallAll else s) := rfl
  refine ⟨fun none seeing => ?_, fun open_ once => ⟨s.stallAll, by rw [stall, if_pos open_], ?_⟩⟩
  · rw [stall, if_neg]
    simp [none, seeing]
  · have stalled := foldl_stallRecord_stalled once s
    have tracker : (s.tracker.contexts.foldl State.stallRecord s).tracker = s.tracker := foldl_stallRecord_tracker _ s
    have ended : Tracker.settle { s.tracker with contexts := [], blind := false } =
        { s.tracker with contexts := [], blind := false, stallTimer := .stopped } := by simp [Tracker.settle]
    have whole : s.stallAll = ((s.tracker.contexts.foldl State.stallRecord s).setTracker
        { s.tracker with contexts := [], blind := false, stallTimer := .stopped }).raise .stall .none := by
      rw [State.stallAll, tracker, ended]
    have slot : ∀ i, s.stallAll.slot i = (s.tracker.contexts.foldl State.stallRecord s).slot i := fun _ => rfl
    refine ⟨by rw [whole]; rfl, ?_, fun c mem => ?_, fun i away => (slot i).trans (stalled.others i away), ?_, ?_⟩
    · rw [whole, raise_completion, setTracker_completion, stalled.whole]
    · rw [slot, stalled.bound c mem, ← stalled_mask]
      rfl
    · rw [whole]
      refine raise_notices_congr ?_ _ _
      rw [setTracker_notices, stalled.whole]
      rfl
    · rw [whole, stalled.whole]
      rfl

/-! ## RESTART and power-on -/

/-- A RESTART from address 1, to the part or broadcast, is carried out, and its reply stands first in the queue. -/
theorem restart_admitted {s : State} {h : Header} (source : h.source = 1) (dest : h.dest = 0 ∨ h.dest = s.ring.address)
    (room : s.ring.replies.length < Config.replyPlaces) :
    exec (.restart h) s = .next (s.frameIn.restart.answered h 0x65 .done []) := by
  have known : h.source ≠ 0 := by rw [source]; decide
  have admitted : s.request h rowRestart true (fun s => (s.restart, .done [])) =
      s.frameIn.admitted h rowRestart true fun s => (s.restart, .done []) := by
    by_cases broadcast : h.dest = 0
    · simp [State.request, broadcast, source, rowRestart]
    · exact request_part known broadcast (dest.resolve_left broadcast) _ _
  have permitted : s.frameIn.ring.permits h.source rowRestart.need = true := by simp [RingPort.permits, source]
  have short : s.frameIn.restart.ring.replies.length < Config.replyPlaces := Nat.zero_lt_succ _
  show answering h rowRestart _ s = _
  rw [answering, admitted, State.admitted, if_neg (by simp [Nat.not_le.mpr room])]
  simp only [Bool.not_true, Bool.false_eq_true, if_false, permitted]
  rw [enqueue_room short]
  rfl

theorem abandon_eq (line : LineRun) : line.abandon = if line = .idle then .idle else .ignoring := by
  cases line <;> simp [LineRun.abandon]

/-- What RESTART makes of a port; its ready line follows the empty queue. -/
theorem headRestart_eq (p : HeadPort) : p.restart = { p with
    state := if p.state = .disabled then .disabled else .idle
    queue := [], expected := none, silenceTimer := .stopped, counters := Vector.replicate 14 0
    line := if p.line = .idle then .idle else .ignoring
    ready := decide (p.state ≠ .disabled ∧ (p.settings.mode = .drop ∨ 0 < p.settings.depth)) } := by
  rw [HeadPort.restart, abandon_eq, HeadPort.settle]
  by_cases disabled : p.state = .disabled <;> cases p.settings.mode <;> simp [HeadPort.enabled, disabled]

/-- Settles O52: the blocks one by one. -/
theorem restartRestoresBlocks : Obligations.RestartRestoresBlocks := by
  intro s h source dest room
  refine ⟨_, restart_admitted source dest room, fun i => ?_, rfl, rfl, rfl, rfl, fun p => ?_, rfl, fun g => ?_, rfl, rfl,
    rfl, rfl, ?_, rfl, rfl, rfl⟩
  · simp [State.answered, State.restart, State.slot, State.setRing]
  · have head : (s.frameIn.restart.answered h 0x65 .done []).head p = (s.head p).restart := by
      simp [State.answered, State.restart, State.head, State.setRing]
    rw [head, headRestart_eq]
  · simp [State.answered, State.restart, State.material, State.setRing]
  · have address : s.frameIn.restart.ring.address = s.ring.address := frame_address s.ring
    simp only [State.answered, setRing_ring, source, address]
    rfl

/-- The values of power-on, with the straps at a level. -/
theorem powerOn_values (straps : BitVec 2) (raw : Level) (pending : List Instr) (bits : List Bool) :
    PowerOnValues straps { State.powerOn straps raw with pending := pending, ringIn := bits } := by
  have heads : ∀ p, State.head { State.powerOn straps raw with pending := pending, ringIn := bits } p = .powerOn p :=
    fun p => by simp [State.powerOn, State.head]
  exact {
    slots := fun i => by simp [State.powerOn, State.slot]
    armQueue := rfl
    completion := rfl
    template := rfl
    entry := rfl
    counts := ⟨rfl, rfl, rfl⟩
    spin := ⟨rfl, rfl, rfl⟩
    passages := ⟨rfl, rfl⟩
    trackerSettings := rfl
    heads := fun p => by
      rw [heads]
      exact ⟨rfl, rfl, rfl, rfl, rfl, rfl, fun c => by simp [HeadPort.powerOn]⟩
    headSettings := fun p => by
      have angle : powerOnAngle p = [0, 682, 1365, 2048, 2730, 3413].getD p 0 := by
        revert p
        decide
      rw [heads, HeadPort.powerOn, angle]
    pointer := rfl
    materials := fun g => by simp [State.powerOn, State.material]
    pool := ⟨rfl, rfl⟩
    limits := fun l => by simp [State.powerOn, State.limit, LimitSet.powerOn]
    engine := rfl
    ringState := ⟨rfl, rfl, rfl, rfl⟩
    address := ⟨rfl, rfl⟩
    replies := ⟨rfl, rfl⟩
    stations := fun k => by simp [State.powerOn, RingPort.powerOn]
    ringCounters := fun c => by simp [State.powerOn, RingPort.powerOn]
    notices := ⟨fun k => by simp [State.powerOn, NoticeUnit.powerOn], rfl, fun k =>
      (BitVec.getLsbD_allOnes ..).trans (decide_eq_true k.isLt)⟩ }

/-- Settles O3: the supply sets every block, and the state after reset is that of power-on. -/
theorem powerOnSetsEveryValue : Obligations.PowerOnSetsEveryValue := by
  refine ⟨fun straps s => ⟨s.applySupply straps, rfl, powerOn_values straps _ _ _, ?_, rfl, rfl⟩,
    powerOn_values 0 .dark [] [], rfl, rfl, rfl, rfl⟩
  have small : 40 + straps.toNat < 256 := by omega
  exact (BitVec.toNat_ofNat _ _).trans (Nat.mod_eq_of_lt small)

end Sys2Proof.Proofs

/-! SUPPORT. A completion: the strips it takes, the close of every strip, and what becomes of the record. -/

namespace Sys2Proof.Proofs

open Sys2Proof.Machine Sys2Proof.Laws

/-! ## Closing every strip -/

theorem offer_strips (r : Record) (c : Zone) : (r.offer c).strips = r.strips := by
  unfold Record.offer
  dsimp only
  split <;> rfl

/-- Judging gives the strip its kinds and puts it in its place. -/
theorem judgeStrip_strips (r : Record) (l : LimitSet) (station : Nat) (st : Strip) :
    ∃ kinds, (r.judgeStrip l station st).strips = r.strips.set station { st with kinds := kinds } := by
  unfold Record.judgeStrip
  dsimp only
  split
  · exact ⟨_, rfl⟩
  · split
    · exact ⟨_, rfl⟩
    · exact ⟨_, offer_strips _ _⟩

/-- After the close of a station's strip, every strip is CLOSED or was there before at another station. -/
theorem closeStrip_strip {r : Record} {l : LimitSet} {station k : Nat} {st : Strip}
    (is : (r.closeStrip l station).strips[k]? = some st) :
    st.state = .closed ∨ k ≠ station ∧ r.strips[k]? = some st := by
  unfold Record.closeStrip at is
  by_cases same : k = station
  · subst same
    cases old : r.strips[k]? with
    | none =>
      rw [old] at is
      simp [old] at is
    | some before =>
      rw [old] at is
      dsimp only at is
      split at is
      · obtain ⟨kinds, judged⟩ := judgeStrip_strips r l k (before.close l r.shell.nominal)
        obtain ⟨inside, -⟩ := List.getElem?_eq_some_iff.mp old
        rw [judged, List.getElem?_set_self inside, Option.some.injEq] at is
        exact .inl (is ▸ rfl)
      · rename_i closed
        rw [old, Option.some.injEq] at is
        subst is
        cases state : before.state
        · exact absurd state closed
        · exact .inl rfl
  · split at is
    · split at is
      · obtain ⟨kinds, judged⟩ := judgeStrip_strips r l station (Strip.close _ l r.shell.nominal)
        rw [judged, List.getElem?_set_ne (Ne.symm same)] at is
        exact .inr ⟨same, is⟩
      · exact .inr ⟨same, is⟩
    · exact .inr ⟨same, is⟩

/-- After the close of the stations below `n` their strips are CLOSED. -/
theorem foldl_closeStrip_closed (r : Record) (l : LimitSet) (n : Nat) {k : Nat} {st : Strip} (below : k < n)
    (is : ((List.range n).foldl (fun r1 k => r1.closeStrip l k) r).strips[k]? = some st) : st.state = .closed := by
  induction n generalizing st with
  | zero => exact absurd below (Nat.not_lt_zero k)
  | succ n ih =>
    rw [List.range_succ, List.foldl_append] at is
    rcases closeStrip_strip is with closed | ⟨other, before⟩
    · exact closed
    · exact ih (by omega) before

theorem closeStrips_all_closed (r : Record) (l : LimitSet) :
    ∀ st ∈ (r.closeStrips l fun _ => true).strips, st.state = .closed := by
  intro st mem
  obtain ⟨k, inside, is⟩ := List.getElem_of_mem mem
  have length := (sameShell_closeStrips r l fun _ => true).strips
  exact foldl_closeStrip_closed r l r.strips.length (length ▸ inside) (List.getElem?_eq_some_iff.mpr ⟨inside, is⟩)

/-! ## History flags -/

theorem flag_history (r : Record) (f : HistoryFlag) (k : Nat) :
    (r.flag f).history.getLsbD k = (r.history.getLsbD k || decide (f.code = k)) := by
  have small : f.code < 10 := by cases f <;> decide
  rw [Record.flag, BitVec.getLsbD_or, HistoryFlag.mask, BitVec.getLsbD_twoPow]
  simp [small]

/-- Closing and judging set no history flag but ZONES_MERGED. -/
theorem closeStrips_history (r : Record) (l : LimitSet) (p : Nat → Bool) {k : Nat} (other : k ≠ 7) :
    (r.closeStrips l p).history.getLsbD k = r.history.getLsbD k := by
  have offered (r : Record) (c : Zone) : (r.offer c).history.getLsbD k = r.history.getLsbD k := by
    unfold Record.offer
    dsimp only
    split
    · rw [flag_history]
      simp [HistoryFlag.code, Ne.symm other]
    · rfl
  have judged (r : Record) (station : Nat) (st : Strip) :
      (r.judgeStrip l station st).history.getLsbD k = r.history.getLsbD k := by
    unfold Record.judgeStrip
    dsimp only
    split
    · rfl
    · split
      · rfl
      · exact offered _ _
  have closed (r : Record) (station : Nat) : (r.closeStrip l station).history.getLsbD k = r.history.getLsbD k := by
    unfold Record.closeStrip
    split
    · split
      · exact judged _ _ _
      · rfl
    · rfl
  unfold Record.closeStrips
  generalize List.range r.strips.length = ks
  induction ks generalizing r with
  | nil => rfl
  | cons n rest ih =>
    rw [List.foldl_cons, ih]
    split
    · exact closed r n
    · rfl

/-! ## Strips taken without an eviction -/

/-- The state after `n` strips of the pool have gone to the end of a record's list. -/
def strippedOf (n : Nat) (i : Fin Config.slots) (s : State) : State :=
  State.setSlot { s with freeStrips := s.freeStrips - n } i
    { s.slot i with strips := (s.slot i).strips ++ List.replicate n newStrip }

theorem setSlot_self (s : State) (i : Fin Config.slots) : s.setSlot i (s.slot i) = s := by
  simp [State.setSlot, State.slot]

theorem setSlot_setSlot (s : State) (i : Fin Config.slots) (r r' : Record) : (s.setSlot i r).setSlot i r' = s.setSlot i r' := by
  simp [State.setSlot]

theorem strippedOf_zero (i : Fin Config.slots) (s : State) : strippedOf 0 i s = s := by
  simp only [strippedOf, Nat.sub_zero, List.replicate_zero, List.append_nil]
  exact setSlot_self s i

theorem strippedOf_succ (n : Nat) (i : Fin Config.slots) (s : State) :
    strippedOf n i (s.takeStrip i) = strippedOf (n + 1) i s := by
  have pool : s.freeStrips - 1 - n = s.freeStrips - (n + 1) := by omega
  simp only [strippedOf, takeStrip_slot_same, takeStrip_freeStrips, pool, List.append_assoc, List.singleton_append,
    ← List.replicate_succ]
  exact setSlot_setSlot { s with freeStrips := s.freeStrips - (n + 1) } i _ _

/-- Allocations that the free strips meet take them, and evict nothing. -/
theorem allocStrips_met {m : Nat} (n : Nat) {i : Fin Config.slots} {s : State} (strips : m ≤ s.freeStrips) :
    State.allocStrips (m + n) i s = State.allocStrips n i (strippedOf m i s) := by
  induction m generalizing s with
  | zero => rw [Nat.zero_add, strippedOf_zero]
  | succ m ih =>
    have some_strip : s.freeStrips ≠ 0 := by omega
    rw [Nat.succ_add, allocStrips_succ, seekStrip_met some_strip, if_neg some_strip, ih, strippedOf_succ]
    rw [takeStrip_freeStrips]
    omega

theorem allocStrips_enough {n : Nat} {i : Fin Config.slots} {s : State} (strips : n ≤ s.freeStrips) :
    State.allocStrips n i s = (strippedOf n i s, true) :=
  (allocStrips_met 0 strips).trans rfl

/-- Allocations beyond the free strips, with nothing to evict, take them all and fail. -/
theorem allocStrips_short {n : Nat} {i : Fin Config.slots} {s : State} (short : s.freeStrips < n)
    (stuck : s.eviction = false ∨ ∀ j ∈ s.completion, (s.slot j).rejudging = true ∨ (s.slot j).claims ≠ []) :
    State.allocStrips n i s = (strippedOf s.freeStrips i s, false) := by
  obtain ⟨m, rfl⟩ : ∃ m, n = s.freeStrips + (m + 1) := ⟨n - s.freeStrips - 1, by omega⟩
  have empty : (strippedOf s.freeStrips i s).freeStrips = 0 := Nat.sub_self _
  have still : (strippedOf s.freeStrips i s).seekStrip = strippedOf s.freeStrips i s := by
    rcases stuck with off | held
    · exact seekStrip_off off
    · refine seekStrip_unmet (evict_none fun j mem => ?_)
      by_cases same : i = j
      · subst same
        rw [strippedOf, setSlot_slot_same]
        exact held i mem
      · rw [strippedOf, setSlot_slot_other _ _ _ _ same]
        exact held j mem
  rw [allocStrips_met _ (Nat.le_refl _), allocStrips_succ, still, if_pos empty]

/-! ## What a completion makes of the record -/

/-- A completion after its strip requests: the close of the strips, the record's state and verdict, the completion order list and the end of the context. -/
def concluded (u : State) (i : Fin Config.slots) (met : Bool) : State :=
  let s1 := if met then u else u.poolShort i
  let s2 := s1.closeAll i
  let s3 := if !met || hasHistory (s2.slot i).history .truncated then s2.voidRecord i else s2.finishRecord i
  let s4 := s3.appendCompletion i
  s4.setTracker (s4.tracker.endContext i)

theorem completeRecord_eq (s : State) (i : Fin Config.slots) :
    s.completeRecord i = concluded (s.fillStrips i).1 i (s.fillStrips i).2 := rfl

/-- The record after a completion whose requests were all met. -/
def metRecord (r : Record) (l : LimitSet) : Record :=
  let closed := r.closeStrips l fun _ => true
  if r.history.getLsbD 2 = true then { closed with state := .void, verdict := .incomplete }
  else { closed.giveVerdict l with state := .complete }

/-- The record after a completion that ran out of strips. -/
def shortRecord (r : Record) (l : LimitSet) : Record :=
  { ({ r with history := r.history ||| 0x008#10 }).closeStrips l fun _ => true with state := .void, verdict := .incomplete }

/-- What every completion does once its strip requests are done, whatever becomes of the record. -/
structure ConcludesRecord (u t : State) (i : Fin Config.slots) : Prop where
  others : ∀ j, j ≠ i → t.slot j = u.slot j
  completion : t.completion = u.completion ++ [i]
  whole : t = { u with
    slots := t.slots, notices := t.notices, completion := t.completion
    tracker := { u.tracker with
      contexts := u.tracker.contexts.filter fun c => decide (c.slot ≠ i), stallTimer := t.tracker.stallTimer } }
  timer : t.tracker.stallTimer = .running ↔ t.tracker.contexts ≠ [] ∨ t.tracker.blind = true

theorem closeAll_subject (s : State) (i : Fin Config.slots) : (s.closeAll i).subjectOf i = s.subjectOf i := by
  have same := sameShell_closeStrips (s.slot i) (s.limit (s.slot i).shell.limitSet) fun _ => true
  exact subjectOf_congr (by rw [closeAll_slot_same, same.shellId]) (by rw [closeAll_slot_same, same.generation])

theorem voidRecord_notices (s : State) (i : Fin Config.slots) :
    (s.voidRecord i).notices = (s.raise .shellVoid (s.subjectOf i)).notices := raise_notices_congr rfl _ _

theorem finishRecord_notices (s : State) (i : Fin Config.slots) :
    (s.finishRecord i).notices = (s.raise .shellComplete (s.subjectOf i)).notices := raise_notices_congr rfl _ _

theorem poolShort_slot_same (s : State) (i : Fin Config.slots) : (s.poolShort i).slot i = (s.slot i).flag .poolShort := by
  unfold State.poolShort
  dsimp only
  split
  · exact modSlot_slot_same _ _ _
  · exact (raise_slot _ _ _ _).trans (modSlot_slot_same _ _ _)

theorem poolShort_notices (s : State) (i : Fin Config.slots) : (s.poolShort i).notices =
    (if (s.slot i).history.getLsbD 3 = true then s else s.raise .poolExhausted (s.subjectOf i)).notices := by
  have bit : hasHistory (s.slot i).history .poolShort = (s.slot i).history.getLsbD 3 := rfl
  rw [State.poolShort, bit]
  split
  · rfl
  · exact raise_notices_congr rfl _ _

theorem poolShort_eq (s : State) (i : Fin Config.slots) :
    s.poolShort i = { s with slots := (s.poolShort i).slots, notices := (s.poolShort i).notices } := by
  unfold State.poolShort
  dsimp only
  split <;> rfl

theorem poolShort_slot_other (s : State) {i j : Fin Config.slots} (apart : i ≠ j) :
    (s.poolShort i).slot j = s.slot j := by
  unfold State.poolShort
  dsimp only
  split
  · exact modSlot_slot_other _ _ _ _ apart
  · exact (raise_slot _ _ _ _).trans (modSlot_slot_other _ _ _ _ apart)

theorem poolShort_subject (s : State) (i : Fin Config.slots) : (s.poolShort i).subjectOf i = s.subjectOf i :=
  subjectOf_congr (by rw [poolShort_slot_same]; rfl) (by rw [poolShort_slot_same]; rfl)

theorem poolShort_mask : HistoryFlag.poolShort.mask = 0x008#10 := by decide

/-- A completion that ran out of strips makes the record VOID, with the flag and the notice of the pool. -/
theorem concluded_short (u : State) (i : Fin Config.slots) : concluded u i false =
    ((((u.poolShort i).closeAll i).voidRecord i).appendCompletion i).setTracker (u.tracker.endContext i) := by
  have tracker : (u.poolShort i).tracker = u.tracker := by rw [poolShort_eq]
  rw [concluded, ← tracker]
  simp only [Bool.not_false, Bool.true_or, if_true, Bool.false_eq_true, if_false]
  rfl

/-- A completion whose requests were all met makes the record VOID under TRUNCATED, else COMPLETE. -/
theorem concluded_met (u : State) (i : Fin Config.slots) : concluded u i true =
    ((if (u.slot i).history.getLsbD 2 = true then (u.closeAll i).voidRecord i
      else (u.closeAll i).finishRecord i).appendCompletion i).setTracker (u.tracker.endContext i) := by
  have bit : hasHistory ((u.closeAll i).slot i).history .truncated = (u.slot i).history.getLsbD 2 := by
    rw [closeAll_slot_same]
    exact closeStrips_history _ _ _ (by decide)
  rw [concluded]
  simp only [Bool.not_true, Bool.false_or, if_true, bit]
  split <;> rfl

/-- The end of a completion, after the record has its last state. -/
theorem concludesRecord_of_ended {u v : State} {i : Fin Config.slots} (others : ∀ j, j ≠ i → v.slot j = u.slot j)
    (whole : v = { u with slots := v.slots, notices := v.notices }) :
    ConcludesRecord u ((v.appendCompletion i).setTracker (u.tracker.endContext i)) i where
  others j other := others j other
  completion := by
    have same : v.completion = u.completion := by rw [whole]
    exact congrArg (· ++ [i]) same
  whole := by
    rw [whole]
    rfl
  timer := settled_stallTimer _

theorem concluded_concludes (u : State) (i : Fin Config.slots) (met : Bool) : ConcludesRecord u (concluded u i met) i := by
  cases met with
  | false =>
    rw [concluded_short]
    refine concludesRecord_of_ended (fun j other => ?_) ?_
    · rw [voidRecord_slot_other _ other.symm, closeAll_slot_other _ other.symm, poolShort_slot_other _ other.symm]
    · rw [poolShort_eq]
      rfl
  | true =>
    rw [concluded_met]
    refine concludesRecord_of_ended (fun j other => ?_) ?_
    · split
      · rw [voidRecord_slot_other _ other.symm, closeAll_slot_other _ other.symm]
      · rw [finishRecord_slot_other _ other.symm, closeAll_slot_other _ other.symm]
    · split <;> rfl

theorem concluded_short_slot (u : State) (i : Fin Config.slots) :
    (concluded u i false).slot i = shortRecord (u.slot i) (u.limit (u.slot i).shell.limitSet) := by
  have limits : ∀ l, (u.poolShort i).limit l = u.limit l := fun l => by
    rw [poolShort_eq]
    rfl
  rw [concluded_short, setTracker_slot, appendCompletion_slot, voidRecord_slot_same, closeAll_slot_same,
    poolShort_slot_same, limits, Record.flag, poolShort_mask, shortRecord]

theorem concluded_short_notices (u : State) (i : Fin Config.slots) : (concluded u i false).notices =
    ((if (u.slot i).history.getLsbD 3 = true then u else u.raise .poolExhausted (u.subjectOf i)).raise .shellVoid
      (u.subjectOf i)).notices := by
  have ended : (concluded u i false).notices = (((u.poolShort i).closeAll i).voidRecord i).notices := by
    rw [concluded_short]
    rfl
  rw [ended, voidRecord_notices, closeAll_subject, poolShort_subject]
  exact raise_notices_congr (poolShort_notices u i) _ _

theorem concluded_met_slot (u : State) (i : Fin Config.slots) :
    (concluded u i true).slot i = metRecord (u.slot i) (u.limit (u.slot i).shell.limitSet) := by
  have shell := (sameShell_closeStrips (u.slot i) (u.limit (u.slot i).shell.limitSet) fun _ => true).shell
  rw [concluded_met, setTracker_slot, appendCompletion_slot, metRecord]
  split
  · rw [voidRecord_slot_same, closeAll_slot_same]
  · rw [finishRecord_slot_same, closeAll_slot_same, closeAll_limit, shell]

theorem concluded_met_notices (u : State) (i : Fin Config.slots) : (concluded u i true).notices =
    (u.raise (if (u.slot i).history.getLsbD 2 = true then .shellVoid else .shellComplete) (u.subjectOf i)).notices := by
  rw [concluded_met]
  split
  · have ended := voidRecord_notices (u.closeAll i) i
    rw [closeAll_subject] at ended
    exact ended
  · have ended := finishRecord_notices (u.closeAll i) i
    rw [closeAll_subject] at ended
    exact ended

/-! ## The records' strips after a completion -/

theorem metRecord_strips (r : Record) (l : LimitSet) : (metRecord r l).strips = (r.closeStrips l fun _ => true).strips := by
  rw [metRecord]
  split
  · rfl
  · exact giveVerdict_strips _ _

theorem shortRecord_strips_length (r : Record) (l : LimitSet) : (shortRecord r l).strips.length = r.strips.length :=
  (sameShell_closeStrips { r with history := r.history ||| 0x008#10 } l fun _ => true).strips

theorem shortRecord_history (r : Record) (l : LimitSet) : (shortRecord r l).history.getLsbD 3 = true := by
  refine (closeStrips_history { r with history := r.history ||| 0x008#10 } l _ (by decide)).trans ?_
  rw [BitVec.getLsbD_or]
  exact Bool.or_true _

/-! ## The strip requests of a completion -/

theorem truncated_mask : HistoryFlag.truncated.mask = 0x004#10 := by decide

theorem truncateAt_eq (r : Record) : r.truncateAt =
    { r with history := if 1024 < r.stationsNeeded then r.history ||| 0x004#10 else r.history } := by
  have places : Config.maxStations = 1024 := rfl
  rw [Record.truncateAt, places, ← truncated_mask]
  split <;> rfl

theorem truncateAt_truncated (r : Record) :
    r.truncateAt.history.getLsbD 2 = true ↔ 1024 < r.stationsNeeded ∨ r.history.getLsbD 2 = true := by
  rw [truncateAt_eq]
  dsimp only
  split
  · simp [*]
  · simp [*]

theorem truncateAt_history (r : Record) {k : Nat} (other : k ≠ 2) :
    r.truncateAt.history.getLsbD k = r.history.getLsbD k := by
  rw [truncateAt_eq]
  dsimp only
  split
  · rw [BitVec.getLsbD_or, ← truncated_mask, HistoryFlag.mask, BitVec.getLsbD_twoPow]
    simp [HistoryFlag.code, Ne.symm other]
  · rfl

theorem stationsNeeded_eq {r : Record} {length : Nat} (is : r.length = some length) :
    r.stationsNeeded = (length + r.shell.pitch - 1) / r.shell.pitch := by
  rw [Record.stationsNeeded, is]
  rfl

/-- The strips a completion still needs, up to the target of 1,024 stations. -/
def missingStrips (r : Record) : Nat := min 1024 r.stationsNeeded - r.strips.length

/-- The state whose pool the strip requests of a completion meet, after the test of the length. -/
def measuredOut (s : State) (i : Fin Config.slots) : State := s.modSlot i Record.truncateAt

theorem fillStrips_eq (s : State) (i : Fin Config.slots) :
    s.fillStrips i = State.allocStrips (missingStrips (s.slot i)) i (measuredOut s i) := rfl

theorem measuredOut_slot_same (s : State) (i : Fin Config.slots) : (measuredOut s i).slot i = (s.slot i).truncateAt :=
  modSlot_slot_same _ _ _

theorem measuredOut_eq (s : State) (i : Fin Config.slots) : measuredOut s i = s.setSlot i { s.slot i with
    history := if 1024 < (s.slot i).stationsNeeded then (s.slot i).history ||| 0x004#10 else (s.slot i).history } :=
  congrArg (s.setSlot i) (truncateAt_eq _)

/-- The state from which a completion concludes that took `n` strips of the pool. -/
def stripped (s : State) (i : Fin Config.slots) (n : Nat) : State := strippedOf n i (measuredOut s i)

theorem stripped_slot_same (s : State) (i : Fin Config.slots) (n : Nat) : (stripped s i n).slot i = { s.slot i with
    history := if 1024 < (s.slot i).stationsNeeded then (s.slot i).history ||| 0x004#10 else (s.slot i).history
    strips := (s.slot i).strips ++ List.replicate n newStrip } := by
  rw [stripped, strippedOf, setSlot_slot_same, measuredOut_slot_same, truncateAt_eq]

theorem stripped_slot_other (s : State) {i j : Fin Config.slots} (n : Nat) (other : j ≠ i) :
    (stripped s i n).slot j = s.slot j :=
  (setSlot_slot_other _ _ _ _ other.symm).trans (modSlot_slot_other _ _ _ _ other.symm)

theorem stripped_subject (s : State) (i : Fin Config.slots) (n : Nat) : (stripped s i n).subjectOf i = s.subjectOf i :=
  subjectOf_congr (by rw [stripped_slot_same]) (by rw [stripped_slot_same])

theorem stripped_truncated (s : State) (i : Fin Config.slots) (n : Nat) :
    ((stripped s i n).slot i).history.getLsbD 2 = true ↔
      1024 < (s.slot i).stationsNeeded ∨ (s.slot i).history.getLsbD 2 = true := by
  rw [← truncateAt_truncated, truncateAt_eq, stripped_slot_same]

theorem stripped_short (s : State) (i : Fin Config.slots) (n : Nat) :
    ((stripped s i n).slot i).history.getLsbD 3 = (s.slot i).history.getLsbD 3 := by
  have same := truncateAt_history (s.slot i) (k := 3) (by decide)
  rw [truncateAt_eq] at same
  rw [stripped_slot_same]
  exact same

/-- A completion with enough strips free evicts nothing. -/
theorem completeRecord_met {s : State} {i : Fin Config.slots} (strips : missingStrips (s.slot i) ≤ s.freeStrips) :
    s.completeRecord i = concluded (stripped s i (missingStrips (s.slot i))) i true := by
  rw [completeRecord_eq, fillStrips_eq, allocStrips_enough (s := measuredOut s i) strips]
  rfl

/-- A completion that runs out of strips with nothing to evict takes every free strip. -/
theorem completeRecord_short {s : State} {i : Fin Config.slots} (short : s.freeStrips < missingStrips (s.slot i))
    (stuck : s.eviction = false ∨ ∀ j ∈ s.completion, (s.slot j).rejudging = true ∨ (s.slot j).claims ≠ []) :
    s.completeRecord i = concluded (stripped s i s.freeStrips) i false := by
  have kept : ∀ j, ((measuredOut s i).slot j).rejudging = (s.slot j).rejudging ∧
      ((measuredOut s i).slot j).claims = (s.slot j).claims := by
    intro j
    by_cases same : i = j
    · subst same
      rw [measuredOut_slot_same, truncateAt_eq]
      exact ⟨rfl, rfl⟩
    · rw [measuredOut, modSlot_slot_other _ _ _ _ same]
      exact ⟨rfl, rfl⟩
  have still : (measuredOut s i).eviction = false ∨ ∀ j ∈ (measuredOut s i).completion,
      ((measuredOut s i).slot j).rejudging = true ∨ ((measuredOut s i).slot j).claims ≠ [] :=
    stuck.imp id fun held j mem => by
      rw [(kept j).1, (kept j).2]
      exact held j mem
  rw [completeRecord_eq, fillStrips_eq, allocStrips_short (s := measuredOut s i) short still]
  rfl

theorem stripped_limit (s : State) (i : Fin Config.slots) (n : Nat) (l : Fin Config.limitSets) :
    (stripped s i n).limit l = s.limit l := rfl

theorem stripped_shell (s : State) (i : Fin Config.slots) (n : Nat) :
    ((stripped s i n).slot i).shell = (s.slot i).shell := by rw [stripped_slot_same]

theorem stripped_strips_length (s : State) (i : Fin Config.slots) (n : Nat) :
    ((stripped s i n).slot i).strips.length = (s.slot i).strips.length + n := by
  rw [stripped_slot_same, List.length_append, List.length_replicate]

/-- The record and the notices after a completion that had its strips from the pool. -/
theorem completed_met {s : State} {i : Fin Config.slots} {n : Nat} :
    let t := concluded (stripped s i n) i true
    let closed := ((stripped s i n).slot i).closeStrips (s.limit (s.slot i).shell.limitSet) fun _ => true
    t.slot i = (if 1024 < (s.slot i).stationsNeeded ∨ (s.slot i).history.getLsbD 2 = true then
        { closed with state := .void, verdict := .incomplete }
      else { closed.giveVerdict (s.limit (s.slot i).shell.limitSet) with state := .complete }) ∧
    t.notices = (if 1024 < (s.slot i).stationsNeeded ∨ (s.slot i).history.getLsbD 2 = true then
        (s.raise .shellVoid (s.subjectOf i)).notices
      else (s.raise .shellComplete (s.subjectOf i)).notices) := by
  refine ⟨?_, ?_⟩
  · rw [concluded_met_slot, stripped_limit, stripped_shell]
    exact if_congr (stripped_truncated s i n) rfl rfl
  · rw [concluded_met_notices, stripped_subject]
    by_cases truncated : ((stripped s i n).slot i).history.getLsbD 2 = true
    · rw [if_pos truncated, if_pos ((stripped_truncated s i n).mp truncated)]
      exact raise_notices_congr rfl _ _
    · rw [if_neg truncated, if_neg fun cut => truncated ((stripped_truncated s i n).mpr cut)]
      exact raise_notices_congr rfl _ _

theorem completed_met_strips (s : State) (i : Fin Config.slots) (n : Nat) :
    ((concluded (stripped s i n) i true).slot i).strips.length = (s.slot i).strips.length + n ∧
      ∀ st ∈ ((concluded (stripped s i n) i true).slot i).strips, st.state = .closed := by
  rw [concluded_met_slot, metRecord_strips]
  exact ⟨(sameShell_closeStrips ..).strips.trans (stripped_strips_length s i n), closeStrips_all_closed _ _⟩

theorem completed_short_strips (s : State) (i : Fin Config.slots) (n : Nat) :
    ((concluded (stripped s i n) i false).slot i).strips.length = (s.slot i).strips.length + n ∧
      ∀ st ∈ ((concluded (stripped s i n) i false).slot i).strips, st.state = .closed := by
  rw [concluded_short_slot]
  exact ⟨(shortRecord_strips_length _ _).trans (stripped_strips_length s i n), closeStrips_all_closed _ _⟩

theorem completed_short_notices (s : State) (i : Fin Config.slots) (n : Nat) :
    (concluded (stripped s i n) i false).notices =
      ((if (s.slot i).history.getLsbD 3 = true then s else s.raise .poolExhausted (s.subjectOf i)).raise .shellVoid
        (s.subjectOf i)).notices := by
  rw [concluded_short_notices, stripped_short, stripped_subject]
  refine raise_notices_congr ?_ _ _
  split
  · rfl
  · exact raise_notices_congr rfl _ _

/-- Settles O24: enough strips, none to be had, and whatever the requests leave. -/
theorem completionFillsAndJudges : Obligations.CompletionFillsAndJudges := by
  refine ⟨fun s i length is => ?_, fun s i length is => ?_, fun s i length is => ?_⟩
  all_goals
    dsimp only
    rw [← stationsNeeded_eq is]
  · intro strips
    rw [completeRecord_met strips]
    obtain ⟨record, notices⟩ := completed_met (s := s) (i := i) (n := missingStrips (s.slot i))
    obtain ⟨count, closed⟩ := completed_met_strips s i (missingStrips (s.slot i))
    obtain ⟨others, completion, whole, timer⟩ := concluded_concludes (stripped s i (missingStrips (s.slot i))) i true
    rw [stripped_slot_same] at record
    refine ⟨closed, ?_, record, notices, fun j other => (others j other).trans (stripped_slot_other s _ other), completion,
      ?_, ?_, timer, ?_⟩
    · rw [count, missingStrips]
      omega
    · rw [whole]
      rfl
    · rw [whole]
      rfl
    · rw [whole]
      rfl
  · intro short stuck
    rw [completeRecord_short short stuck]
    obtain ⟨count, closed⟩ := completed_short_strips s i s.freeStrips
    obtain ⟨others, completion, whole, timer⟩ := concluded_concludes (stripped s i s.freeStrips) i false
    have record := concluded_short_slot (stripped s i s.freeStrips) i
    refine ⟨?_, ?_, ?_, count, closed, ?_, completion, completed_short_notices s i _, ?_,
      fun j other => (others j other).trans (stripped_slot_other s _ other)⟩
    · rw [record]
      rfl
    · rw [record]
      rfl
    · rw [record]
      exact shortRecord_history _ _
    · rw [whole]
      exact Nat.sub_self _
    · rw [whole]
      rfl
  · have completed := completeRecord_eq s i
    rw [fillStrips_eq, measuredOut_eq, missingStrips] at completed
    rw [completed]
    generalize State.allocStrips _ i _ = sought
    obtain ⟨u, met⟩ := sought
    obtain ⟨others, completion, whole, timer⟩ := concluded_concludes u i met
    refine ⟨?_, ?_, others, completion, whole, timer⟩
    · rintro rfl
      exact ⟨concluded_met_slot u i, concluded_met_notices u i⟩
    · rintro rfl
      exact ⟨concluded_short_slot u i, concluded_short_notices u i⟩

end Sys2Proof.Proofs

/-! SUPPORT. Every step keeps the output lines, the timers and the candidate edge true to the state: the units that have a line or a timer, one by one, and the commands that change them. -/

namespace Sys2Proof.Proofs

open Sys2Proof.Machine Sys2Proof.Laws

/-! ## What follows in each unit -/

/-- The attention line is the one that a settled notice unit has (R186). -/
def AttentionFollows (n : NoticeUnit) : Prop := n.attention = n.settle.attention

/-- The ready line and the silence timer of a head port follow its state and queue (R53, R54). -/
structure HeadFollows (p : HeadPort) : Prop where
  ready : p.ready = p.settle.ready
  silence : p.silenceTimer = .running ↔ p.state = .running

/-- BYPASS and RING OUT follow the ring state (R174). -/
structure BypassFollows (r : RingPort) : Prop where
  bypass : r.bypass = r.state.bypassed
  undriven : r.bypass = true → r.ringOut = none

/-- The stall timer follows the passages, the spin timer the spin state, and the candidate edge the ENTRY level (R45, R37, R28). -/
structure TrackerFollows (t : Tracker) : Prop where
  stall : t.stallTimer = t.settle.stallTimer
  spin : t.spinTimer = .running ↔ t.spin = .synced
  candidate : t.candidate.isSome = true ↔ t.raw ≠ t.entry

/-- The four units follow. A state enters by these four fields alone, so that a change elsewhere is no change here. -/
structure UnitsFollow (n : NoticeUnit) (heads : Vector HeadPort Config.heads) (r : RingPort) (t : Tracker) : Prop where
  notices : AttentionFollows n
  heads : ∀ h : Fin Config.heads, HeadFollows heads[h]
  ring : BypassFollows r
  tracker : TrackerFollows t

/-- Every line, timer and candidate edge of the part follows. -/
def Follows (s : State) : Prop := UnitsFollow s.notices s.heads s.ring s.tracker

theorem stallTimer_follows_iff (t : Tracker) : t.stallTimer = t.settle.stallTimer ↔
    (t.stallTimer = .running ↔ t.contexts ≠ [] ∨ t.blind = true) := by
  by_cases open_ : t.contexts ≠ [] ∨ t.blind = true <;> cases timer : t.stallTimer <;> simp [Tracker.settle, open_]

/-- What follows unit by unit is what the two invariants say of the state. -/
theorem follows_iff (s : State) : Follows s ↔ LinesFollow s ∧ CandidateFollows s := by
  constructor
  · rintro ⟨notices, heads, ring, tracker⟩
    exact ⟨⟨notices, fun h => (heads h).ready, ring.bypass, ring.undriven, (stallTimer_follows_iff _).mp tracker.stall,
      tracker.spin, fun h => (heads h).silence⟩, tracker.candidate⟩
  · rintro ⟨lines, candidate⟩
    exact ⟨lines.attention, fun h => ⟨lines.ready h, lines.silence h⟩, ⟨lines.bypass, lines.undriven⟩,
      ⟨(stallTimer_follows_iff _).mpr lines.stall, lines.spin, candidate⟩⟩

/-! ## Head ports -/

theorem headCount_follows {p : HeadPort} (follows : HeadFollows p) (c : HeadCounter) (n : Nat) :
    HeadFollows (p.count c n) := ⟨follows.ready, follows.silence⟩

/-- A settled port follows when its silence timer does. -/
theorem headSettle_follows {p : HeadPort} (silence : p.silenceTimer = .running ↔ p.state = .running) :
    HeadFollows p.settle := ⟨rfl, silence⟩

theorem keepRunning_follows (p : HeadPort) : HeadFollows p.keepRunning := headSettle_follows (by simp)

/-- A port that stops running without being disabled keeps its ready line. -/
theorem headStopped_follows {p : HeadPort} (follows : HeadFollows p) (running : p.state = .running) {state : HeadState}
    (enabled : state ≠ .disabled) (stopped : state ≠ .running) :
    HeadFollows { p with state := state, silenceTimer := .stopped } where
  ready := by simpa [HeadPort.settle, HeadPort.enabled, running, enabled] using follows.ready
  silence := by simp [stopped]

/-- The settings of a DISABLED port do not show on its ready line. -/
theorem headSettings_follows {p : HeadPort} (follows : HeadFollows p) (disabled : p.state = .disabled)
    (settings : HeadSettings) : HeadFollows { p with settings := settings } where
  ready := by simpa [HeadPort.settle, HeadPort.enabled, disabled] using follows.ready
  silence := follows.silence

theorem headDisable_port_follows {p : HeadPort} (follows : HeadFollows p) : HeadFollows p.disable := by
  unfold HeadPort.disable
  split
  · exact ⟨follows.ready, follows.silence⟩
  · exact headSettle_follows (by simp)

theorem headRestart_follows (p : HeadPort) : HeadFollows p.restart := by
  refine headSettle_follows ?_
  by_cases disabled : p.state = .disabled <;> simp [disabled]

theorem headPowerOn_follows (i : Fin Config.heads) : HeadFollows (.powerOn i) := ⟨rfl, by simp [HeadPort.powerOn]⟩

/-! ## The ring port -/

theorem enter_follows (r : RingPort) (st : RingState) : BypassFollows (r.enter st) where
  bypass := rfl
  undriven bypassed := if_pos bypassed

theorem cut_follows {r : RingPort} (follows : BypassFollows r) : BypassFollows r.cut := by
  unfold RingPort.cut
  split
  · exact ⟨follows.bypass, follows.undriven⟩
  · exact follows

theorem leaveActive_follows (r : RingPort) (st : RingState) : BypassFollows (r.leaveActive st) :=
  ⟨(enter_follows r st).bypass, (enter_follows r st).undriven⟩

theorem turnEnd_follows {r : RingPort} (follows : BypassFollows r) : BypassFollows r.turnEnd := by
  unfold RingPort.turnEnd
  split
  · exact leaveActive_follows r _
  · exact follows

theorem cutEnd_follows {r : RingPort} (follows : BypassFollows r) : BypassFollows r.cutEnd := by
  unfold RingPort.cutEnd
  split
  · exact leaveActive_follows r _
  · exact follows

theorem frame_follows {r : RingPort} (follows : BypassFollows r) : BypassFollows r.frame :=
  have driven := cutEnd_follows (turnEnd_follows (cut_follows follows))
  ⟨driven.bypass, driven.undriven⟩

theorem idleRun_follows {r : RingPort} (follows : BypassFollows r) : BypassFollows r.idleRun := by
  simp only [RingPort.idleRun]
  split
  · exact ⟨rfl, fun bypassed => Bool.noConfusion bypassed⟩
  · exact ⟨follows.bypass, follows.undriven⟩

theorem takeTurn_follows {r : RingPort} (follows : BypassFollows r) : BypassFollows r.takeTurn := by
  simp only [RingPort.takeTurn]
  split
  · exact ⟨follows.bypass, follows.undriven⟩
  · split
    · exact ⟨rfl, fun bypassed => Bool.noConfusion bypassed⟩
    · exact ⟨follows.bypass, follows.undriven⟩

theorem applyEffect_follows {r : RingPort} (follows : BypassFollows r) (effect : ReplyEffect) :
    BypassFollows (r.applyEffect effect) := by
  cases effect <;> exact ⟨follows.bypass, follows.undriven⟩

theorem goOn_follows {r : RingPort} (follows : BypassFollows r) (effect : ReplyEffect) :
    BypassFollows (r.goOn effect) := by
  unfold RingPort.goOn
  split
  · exact ⟨follows.bypass, follows.undriven⟩
  · split
    · exact follows
    · exact ⟨follows.bypass, follows.undriven⟩

theorem replySent_follows {r : RingPort} (follows : BypassFollows r) : BypassFollows r.replySent := by
  unfold RingPort.replySent
  split
  · exact follows
  · rename_i sent rest _
    split
    · have applied := applyEffect_follows follows sent.effect
      exact goOn_follows
        (r := { r.applyEffect sent.effect with replies := rest, sentInTurn := r.sentInTurn + 1 })
        ⟨applied.bypass, applied.undriven⟩ sent.effect
    · exact follows

/-- A bit time drives nothing while the part is bypassed. -/
theorem bitTime_follows {r : RingPort} (follows : BypassFollows r) (b : Bool) : BypassFollows (r.bitTime b) where
  bypass := follows.bypass
  undriven bypassed := by
    have out : r.state.bypassed = true := follows.bypass.symm.trans bypassed
    show r.drives = none
    cases state : r.state <;> simp_all [RingPort.drives, RingState.bypassed]

/-! ## The tracker -/

/-- A settled tracker follows when its spin timer and its candidate edge do. -/
theorem trackerSettle_follows {t : Tracker} (spin : t.spinTimer = .running ↔ t.spin = .synced)
    (candidate : t.candidate.isSome = true ↔ t.raw ≠ t.entry) : TrackerFollows t.settle := ⟨rfl, spin, candidate⟩

theorem endContext_follows {t : Tracker} (follows : TrackerFollows t) (i : Fin Config.slots) :
    TrackerFollows (t.endContext i) := trackerSettle_follows follows.spin follows.candidate

theorem dropContext_follows {t : Tracker} (follows : TrackerFollows t) (i : Fin Config.slots) :
    TrackerFollows (t.dropContext i) := trackerSettle_follows follows.spin follows.candidate

/-- A change of the ENTRY level begins or abandons a debounce interval (R28). -/
theorem rawChange_follows {t : Tracker} (follows : TrackerFollows t) : TrackerFollows t.rawChange where
  stall := follows.stall
  spin := follows.spin
  candidate := by
    show (if t.raw.other = t.entry then none else some t.advance).isSome = true ↔ t.raw.other ≠ t.entry
    split <;> simp [*]

/-- The edge that the candidate stands for brings the entry state to the ENTRY level (R28). -/
theorem takeEdge_follows {t : Tracker} (follows : TrackerFollows t) {edge : Word} {level : Level}
    (candidate : t.candidate = some edge) (other : t.entry ≠ level) : TrackerFollows (t.takeEdge level) where
  stall := follows.stall
  spin := follows.spin
  candidate := by
    have apart : t.raw ≠ t.entry := follows.candidate.mp (by rw [candidate]; rfl)
    show (none : Option Word).isSome = true ↔ t.raw ≠ level
    cases raw : t.raw <;> cases entry : t.entry <;> cases level <;> simp_all

/-- Contexts changed one by one are as many as before, so the stall timer stands. -/
theorem mapContexts_follows {t : Tracker} (follows : TrackerFollows t) (f : Context → Context) :
    TrackerFollows { t with contexts := t.contexts.map f } where
  stall := by simpa [Tracker.settle] using follows.stall
  spin := follows.spin
  candidate := follows.candidate

theorem index_follows {t : Tracker} (follows : TrackerFollows t) : TrackerFollows t.index :=
  ⟨follows.stall, by simp [Tracker.index], follows.candidate⟩

theorem loseSpin_tracker_follows {t : Tracker} (follows : TrackerFollows t) :
    TrackerFollows { t with spin := .unsynced, spinTimer := .stopped } := ⟨follows.stall, by simp, follows.candidate⟩

theorem trackerRestart_follows (t : Tracker) : TrackerFollows t.restart where
  stall := by simp [Tracker.restart, Tracker.settle]
  spin := by simp [Tracker.restart]
  candidate := by cases raw : t.raw <;> simp [Tracker.restart, raw]

theorem trackerPowerOn_follows (raw : Level) : TrackerFollows (.powerOn raw) where
  stall := by simp [Tracker.powerOn, Tracker.settle]
  spin := by simp [Tracker.powerOn]
  candidate := by cases raw <;> simp [Tracker.powerOn]

/-! ## Changes of one unit -/

theorem setNotices_follows {s : State} (follows : Follows s) {n : NoticeUnit} (unit : AttentionFollows n) :
    Follows (s.setNotices n) := ⟨unit, follows.heads, follows.ring, follows.tracker⟩

theorem raise_follows {s : State} (follows : Follows s) (k : NoticeKind) (subject : Subject) :
    Follows (s.raise k subject) := setNotices_follows follows rfl

theorem setHead_follows {s : State} (follows : Follows s) {h : Fin Config.heads} {p : HeadPort}
    (unit : HeadFollows p) : Follows (s.setHead h p) where
  notices := follows.notices
  heads k := by
    show HeadFollows ((s.setHead h p).head k)
    rw [setHead_head]
    split
    · exact unit
    · exact follows.heads k
  ring := follows.ring
  tracker := follows.tracker

theorem setRing_follows {s : State} (follows : Follows s) {r : RingPort} (unit : BypassFollows r) :
    Follows (s.setRing r) := ⟨follows.notices, follows.heads, unit, follows.tracker⟩

theorem setTracker_follows {s : State} (follows : Follows s) {t : Tracker} (unit : TrackerFollows t) :
    Follows (s.setTracker t) := ⟨follows.notices, follows.heads, follows.ring, unit⟩

/-- A change of a record is no change of a line. -/
theorem modSlot_follows {s : State} (follows : Follows s) (i : Fin Config.slots) (f : Record → Record) :
    Follows (s.modSlot i f) := follows

theorem countHead_follows {s : State} (follows : Follows s) (h : Fin Config.heads) (c : HeadCounter) :
    Follows (s.countHead h c) := setHead_follows follows (headCount_follows (follows.heads h) c 1)

theorem setLine_follows {s : State} (follows : Follows s) (h : Fin Config.heads) (line : LineRun) :
    Follows (s.setLine h line) := setHead_follows follows ⟨(follows.heads h).ready, (follows.heads h).silence⟩

theorem enqueue_follows {s : State} (follows : Follows s) (h : Header) (code : Byte) (a : Answer) :
    Follows (s.enqueue h code a) := by
  unfold State.enqueue
  split
  · exact setRing_follows follows ⟨follows.ring.bypass, follows.ring.undriven⟩
  · exact follows

theorem follows_requestSafe : RequestSafe Follows where
  frame _ follows := setRing_follows follows (frame_follows follows.ring)
  count _ _ follows := setRing_follows follows ⟨follows.ring.bypass, follows.ring.undriven⟩
  shed _ follows := raise_follows follows _ _
  enqueue _ h code a follows := enqueue_follows follows h code a

/-! ## Freeing and allocation -/

theorem freeRecord_follows {s : State} (follows : Follows s) (i : Fin Config.slots) : Follows (s.freeRecord i) :=
  ⟨follows.notices, follows.heads, follows.ring, dropContext_follows follows.tracker i⟩

theorem evict_follows (s t : State) (follows : Follows s) (evicted : s.evict = some t) : Follows t := by
  obtain ⟨i, -, -, -, rfl⟩ := evict_some evicted
  exact raise_follows (freeRecord_follows follows i) _ _

theorem allocStrips_follows {s : State} (follows : Follows s) (n : Nat) (i : Fin Config.slots) :
    Follows (State.allocStrips n i s).1 :=
  allocStrips_keeps evict_follows (fun _ kept _ => kept) n follows

/-! ## Commands of the shell table -/

theorem arm_follows (id : Word) (f : ShellFields) (s : State) (follows : Follows s) : Follows (arm id f s).1 := by
  rw [arm_eq]
  split
  · exact follows
  · split
    · exact follows
    · rename_i i t taken
      have kept : Follows t := allocSlot_keeps evict_follows follows taken
      exact kept

theorem disarm_follows (i : Fin Config.slots) (s : State) (follows : Follows s) : Follows (disarm i s).1 := by
  unfold disarm
  split
  · exact freeRecord_follows follows i
  · exact follows

theorem amend_follows (f : AmendFields) (i : Fin Config.slots) (s : State) (follows : Follows s) :
    Follows (amend f i s).1 := by
  rw [amend_eq]
  split
  · exact follows
  · rw [amendRecord, moveRef_eq]
    exact follows

theorem claim_follows (source : Byte) (i : Fin Config.slots) (s : State) (follows : Follows s) :
    Follows (claim source i s).1 := by
  unfold claim
  dsimp only
  split_ifs <;> exact follows

theorem release_follows (source : Byte) (i : Fin Config.slots) (s : State) (follows : Follows s) :
    Follows (release source i s).1 := by
  unfold release
  dsimp only
  split
  · exact follows
  · split
    · exact freeRecord_follows follows i
    · exact follows

theorem retire_follows (option : RetireOption) (i : Fin Config.slots) (s : State) (follows : Follows s) :
    Follows (retire option i s).1 := by
  have freed := freeRecord_follows follows i
  unfold retire
  dsimp only
  split_ifs
  · exact follows
  · exact freed
  · exact follows
  · exact follows
  · exact freed
  · exact follows
  · exact follows

theorem endRejudge_follows {s : State} (follows : Follows s) (run : RejudgeRun) : Follows (s.endRejudge run) :=
  raise_follows (s := { s.modSlot run.slot fun r =>
    { (if r.state = .complete then r.giveVerdict run.copy else r) with rejudging := false } with engine := none })
    follows _ _

theorem startRejudge_follows {s : State} (follows : Follows s) (i : Fin Config.slots) : Follows (s.startRejudge i) := by
  simp only [State.startRejudge]
  split
  · exact endRejudge_follows (s := State.modSlot { s with engine := some _ } i _) follows _
  · exact follows

theorem rejudge_follows (i : Fin Config.slots) (s : State) (follows : Follows s) : Follows (rejudge i s).1 := by
  unfold rejudge
  split_ifs
  · exact follows
  · exact follows
  · exact follows
  · exact startRejudge_follows follows i

theorem rejudgeStep_follows {s : State} (follows : Follows s) : Follows s.rejudgeStep := by
  unfold State.rejudgeStep
  split
  · exact follows
  · split
    · exact follows
    · exact endRejudge_follows follows _

theorem materialWrite_follows (entry : Byte) (f : MaterialValues) (s : State) (follows : Follows s) :
    Follows (materialWrite entry f s).1 := by
  unfold materialWrite
  split
  · exact follows
  · split
    · exact follows
    · split <;> exact follows

theorem materialClear_follows (entry : Byte) (s : State) (follows : Follows s) : Follows (materialClear entry s).1 := by
  unfold materialClear
  split
  · exact follows
  · split <;> exact follows

theorem templateWrite_follows (f : ShellFields) (s : State) (follows : Follows s) : Follows (templateWrite f s).1 := by
  unfold templateWrite
  split <;> exact follows

theorem poolSet_follows (setting : Byte) (s : State) (follows : Follows s) : Follows (poolSet setting s).1 := by
  unfold poolSet
  split <;> exact follows

theorem limitWrite_follows (set : Byte) (f : LimitFields) (s : State) (follows : Follows s) :
    Follows (limitWrite set f s).1 := by
  unfold limitWrite
  split
  · exact follows
  · split <;> exact follows

/-! ## Passages -/

theorem poolShort_follows {s : State} (follows : Follows s) (i : Fin Config.slots) : Follows (s.poolShort i) := by
  simp only [State.poolShort]
  split
  · exact follows
  · exact raise_follows (modSlot_follows follows i _) _ _

theorem closeAll_follows {s : State} (follows : Follows s) (i : Fin Config.slots) : Follows (s.closeAll i) := follows

theorem voidRecord_follows {s : State} (follows : Follows s) (i : Fin Config.slots) : Follows (s.voidRecord i) :=
  raise_follows (modSlot_follows follows i _) _ _

theorem finishRecord_follows {s : State} (follows : Follows s) (i : Fin Config.slots) : Follows (s.finishRecord i) :=
  raise_follows (modSlot_follows follows i _) _ _

theorem completeRecord_follows {s : State} (follows : Follows s) (i : Fin Config.slots) :
    Follows (s.completeRecord i) := by
  have filled : Follows (s.fillStrips i).1 := allocStrips_follows (modSlot_follows follows i _) _ i
  have sought : Follows (if (s.fillStrips i).2 then (s.fillStrips i).1 else (s.fillStrips i).1.poolShort i) := by
    split
    · exact filled
    · exact poolShort_follows filled i
  have ended (u : State) (kept : Follows u) :
      Follows ((u.appendCompletion i).setTracker ((u.appendCompletion i).tracker.endContext i)) :=
    setTracker_follows (s := u.appendCompletion i) kept (endContext_follows kept.tracker i)
  simp only [State.completeRecord]
  refine ended _ ?_
  generalize (if (s.fillStrips i).2 then (s.fillStrips i).1 else (s.fillStrips i).1.poolShort i) = u at sought
  split
  · exact voidRecord_follows (closeAll_follows sought i) i
  · exact finishRecord_follows (closeAll_follows sought i) i

theorem advanceContext_follows {s : State} (follows : Follows s) (c : Context) : Follows (s.advanceContext c) := by
  simp only [State.advanceContext]
  split
  · exact completeRecord_follows (modSlot_follows follows c.slot _) c.slot
  · exact follows

/-- An advance pulse restarts the stall timer, which then runs exactly while a passage is open (R45). -/
theorem advancePulse_follows {s : State} (follows : Follows s) : Follows s.advancePulse :=
  foldl_contexts_keeps (P := Follows) (fun _ c kept => advanceContext_follows kept c) _
    (setTracker_follows follows (trackerSettle_follows follows.tracker.spin follows.tracker.candidate))

theorem stallRecord_follows {s : State} (follows : Follows s) (c : Context) : Follows (s.stallRecord c) :=
  voidRecord_follows (closeAll_follows (modSlot_follows follows c.slot _) c.slot) c.slot

theorem stallAll_follows {s : State} (follows : Follows s) : Follows s.stallAll := by
  have voided := foldl_contexts_keeps (P := Follows) (fun _ c kept => stallRecord_follows kept c) s.tracker.contexts follows
  have ended (u : State) (kept : Follows u) :
      Follows (u.setTracker (Tracker.settle { u.tracker with contexts := [], blind := false })) :=
    setTracker_follows kept (trackerSettle_follows kept.tracker.spin kept.tracker.candidate)
  exact raise_follows (ended _ voided) _ _

theorem flagBound_follows {s : State} (follows : Follows s) (k : HistoryFlag) : Follows (s.flagBound k) :=
  foldl_contexts_keeps (P := Follows) (f := fun u c => u.modSlot c.slot fun r => r.flag k)
    (fun _ c kept => modSlot_follows kept c.slot _) _ follows

theorem makeRoom_follows {s : State} (follows : Follows s) : Follows s.makeRoom := by
  unfold State.makeRoom
  split
  · exact completeRecord_follows (modSlot_follows follows _ _) _
  · exact follows

theorem seekRecord_follows {s : State} (follows : Follows s) : Follows s.seekRecord.1 := by
  have unrecorded := raise_follows follows .unrecorded .none
  unfold State.seekRecord
  split
  · exact follows
  · split
    · split
      · rename_i i t taken
        have kept : Follows t := allocSlot_keeps evict_follows follows taken
        exact kept
      · exact unrecorded
    · exact unrecorded

theorem openPassage_follows {s : State} (follows : Follows s) (edge : Word) (found : Option (Fin Config.slots)) :
    Follows (s.openPassage edge found) := by
  refine setTracker_follows follows ?_
  cases found <;> exact trackerSettle_follows follows.tracker.spin follows.tracker.candidate

theorem litEdge_follows {s t : State} (follows : Follows s) (next : execLitEdge s = .next t) : Follows t := by
  obtain rfl := Host.Outcome.next.inj next
  split
  · rename_i edge entry candidate
    have lit := takeEdge_follows (level := .lit) follows.tracker candidate (by simp [entry])
    exact openPassage_follows (seekRecord_follows (makeRoom_follows (setTracker_follows follows lit))) _ _
  · exact follows

theorem departure_follows {s : State} (follows : Follows s) (edge : Word) : Follows (s.departure edge) := by
  unfold State.departure
  split
  · exact modSlot_follows (setTracker_follows follows (mapContexts_follows follows.tracker _)) _ _
  · exact setTracker_follows follows (trackerSettle_follows follows.tracker.spin follows.tracker.candidate)

theorem darkEdge_follows {s t : State} (follows : Follows s) (next : execDarkEdge s = .next t) : Follows t := by
  obtain rfl := Host.Outcome.next.inj next
  split
  · rename_i edge entry candidate
    have dark := takeEdge_follows (level := .dark) follows.tracker candidate (by simp [entry])
    exact departure_follows (setTracker_follows follows dark) edge
  · exact follows

theorem spinTimeout_follows {s t : State} (follows : Follows s) (next : execSpinTimeout s = .next t) : Follows t := by
  obtain rfl := Host.Outcome.next.inj next
  split
  · have lost := setTracker_follows follows (loseSpin_tracker_follows follows.tracker)
    simp only [State.loseSpin]
    split
    · exact lost
    · exact raise_follows (flagBound_follows lost _) _ _
  · exact follows

theorem trackerSet_follows (f : TrackerFields) (s : State) (follows : Follows s) : Follows (trackerSet f s).1 := by
  have tracker := follows.tracker
  unfold trackerSet
  split
  · exact follows
  · split
    · exact follows
    · exact setTracker_follows follows ⟨tracker.stall, tracker.spin, tracker.candidate⟩

/-! ## Head lines and shots -/

theorem validReport_follows {s : State} (follows : Follows s) (h : Fin Config.heads) (octets : List Byte) :
    Follows (s.validReport h octets) := by
  simp only [State.validReport]
  split
  · exact raise_follows (setHead_follows follows (keepRunning_follows _)) _ _
  · exact setHead_follows follows (keepRunning_follows _)

theorem gather_follows {s : State} (follows : Follows s) (h : Fin Config.heads) (octets : List Byte) (fault : Bool) :
    Follows (s.gather h octets fault) := by
  unfold State.gather State.runReached
  split
  · split
    · exact setLine_follows (countHead_follows follows h _) h _
    · exact setLine_follows (validReport_follows follows h octets) h _
  · exact setLine_follows follows h _

theorem octetIn_follows {s : State} (follows : Follows s) (h : Fin Config.heads) (o : RunOctet) :
    Follows (s.octetIn h o) := by
  unfold State.octetIn
  split
  · exact follows
  · split
    · exact gather_follows follows h _ _
    · exact setLine_follows follows h _
  · exact gather_follows follows h _ _
  · exact setLine_follows follows h _
  · exact follows

theorem octetsIn_follows (h : Fin Config.heads) (octets : List RunOctet) {s : State} (follows : Follows s) :
    Follows (s.octetsIn h octets) := by
  induction octets generalizing s with
  | nil => exact follows
  | cons o rest ih => exact ih (octetIn_follows follows h o)

theorem lineGap_follows {s : State} (follows : Follows s) (h : Fin Config.heads) : Follows (s.lineGap h) := by
  have ended (c : HeadCounter) := setLine_follows (countHead_follows follows h c) h .idle
  unfold State.lineGap
  split
  · exact setLine_follows follows h _
  · exact follows
  · exact ended .corrupt
  · split
    · exact ended .corrupt
    · exact setLine_follows follows h _
  · exact ended .stray

theorem silenceTimeout_follows {s t : State} {h : Fin Config.heads} (follows : Follows s)
    (next : execSilenceTimeout h s = .next t) : Follows t := by
  obtain rfl := Host.Outcome.next.inj next
  split
  · rename_i running
    unfold State.fallSilent
    split
    · exact setHead_follows follows (headStopped_follows (follows.heads h) running (by decide) (by decide))
    · have silent := setHead_follows (h := h) follows
        (headStopped_follows (state := .silent) (follows.heads h) running (by decide) (by decide))
      exact raise_follows (flagBound_follows silent _) _ _
  · exact follows

theorem headSet_follows (head : Byte) (f : HeadFields) (s : State) (follows : Follows s) :
    Follows (headSet head f s).1 := by
  unfold headSet
  split
  · exact follows
  · rename_i h _
    split
    · exact follows
    · rename_i disabled
      split
      · exact follows
      · exact setHead_follows follows (headSettings_follows (follows.heads h) (not_not.mp disabled) _)

theorem headEnable_follows (head : Byte) (s : State) (follows : Follows s) : Follows (headEnable head s).1 := by
  unfold headEnable
  split
  · exact follows
  · split
    · exact follows
    · exact setHead_follows follows (headSettle_follows (by simp))

theorem headDisable_follows (head : Byte) (s : State) (follows : Follows s) : Follows (headDisable head s).1 := by
  unfold headDisable
  split
  · exact follows
  · rename_i h _
    exact setHead_follows follows (headDisable_port_follows (follows.heads h))

theorem convert_follows {s : State} (follows : Follows s) (h : Fin Config.heads) (rep : Report) (i : Fin Config.slots)
    (station : Nat) (sector : Fin Config.sectors) (cls : ShotClass) :
    Follows (s.convert h rep i station sector cls) := by
  simp only [State.convert]
  split
  · exact modSlot_follows (countHead_follows (modSlot_follows follows i _) h _) i _
  · split <;> exact follows

theorem classify_follows {s : State} (follows : Follows s) (h : Fin Config.heads) (rep : Report) (i : Fin Config.slots)
    (station : Nat) (sector : Fin Config.sectors) : Follows (s.classify h rep i station sector) := by
  have counted (c : HeadCounter) := countHead_follows follows h c
  simp only [State.classify]
  split
  · exact modSlot_follows (counted _) i _
  · exact convert_follows (counted _) h rep i station sector _

theorem place_follows {s : State} (follows : Follows s) (h : Fin Config.heads) (rep : Report) (i : Fin Config.slots)
    (generation : Byte) (station : Nat) (sector : Fin Config.sectors) :
    Follows (s.place h rep i generation station sector) := by
  have counted (c : HeadCounter) := countHead_follows follows h c
  have filled (n : Nat) := allocStrips_follows follows n i
  simp only [State.place]
  split
  · exact counted _
  · split
    · exact modSlot_follows (counted _) i _
    · split
      · split
        · exact modSlot_follows (counted _) i _
        · exact classify_follows follows h rep i _ _
      · split
        · exact classify_follows (filled _) h rep i _ _
        · exact poolShort_follows (countHead_follows (filled _) h _) i

theorem takeReport_follows {s : State} (follows : Follows s) (h : Fin Config.heads) (rest : List Report) :
    Follows (s.takeReport h rest) := by
  have taken : Follows (s.setHead h (HeadPort.settle { s.head h with queue := rest })) :=
    setHead_follows follows (headSettle_follows (follows.heads h).silence)
  exact taken

theorem shotService_follows {s : State} (follows : Follows s) : Follows s.shotService := by
  unfold State.shotService
  split
  · exact follows
  · rename_i h _
    split
    · exact follows
    · rename_i rep rest _
      have taken := takeReport_follows follows h rest
      split
      · exact countHead_follows taken h _
      · exact place_follows taken h rep _ _ _ _

/-! ## Commands of the ring port and the notice unit -/

theorem stationsWrite_follows (f : StationFields) (s : State) (follows : Follows s) :
    Follows (stationsWrite f s).1 := by
  unfold stationsWrite
  split
  · exact follows
  · exact setRing_follows follows ⟨follows.ring.bypass, follows.ring.undriven⟩

theorem setAddress_follows (part : Byte) (s : State) (follows : Follows s) : Follows (setAddress part s).1 := by
  unfold setAddress
  split <;> exact follows

theorem joinRing_follows (s : State) (follows : Follows s) : Follows (joinRing s).1 := by
  unfold joinRing
  split
  · exact setRing_follows follows (enter_follows _ _)
  · exact follows

theorem leaveRing_follows (s : State) (follows : Follows s) : Follows (leaveRing s).1 := by
  unfold leaveRing
  split
  · exact follows
  · exact setRing_follows follows (enter_follows _ _)
  · exact follows

theorem noticeMask_follows (mask : Half) (s : State) (follows : Follows s) : Follows (noticeMask mask s).1 := by
  unfold noticeMask
  split
  · exact follows
  · exact setNotices_follows follows rfl

theorem fetchNotice_follows (s : State) (follows : Follows s) : Follows (fetchNotice s).1 := by
  unfold fetchNotice
  split
  · exact follows
  · exact setNotices_follows follows rfl

theorem countersClear_follows (s : State) (follows : Follows s) : Follows (countersClear s).1 :=
  have ring : BypassFollows { s.ring with counters := Vector.replicate _ 0 } :=
    ⟨follows.ring.bypass, follows.ring.undriven⟩
  have tracker : TrackerFollows { s.tracker with slips := 0 } :=
    ⟨follows.tracker.stall, follows.tracker.spin, follows.tracker.candidate⟩
  setTracker_follows (setRing_follows follows ring) tracker

theorem pollFrame_follows {s : State} (follows : Follows s) (dest source : Byte) :
    Follows (s.pollFrame dest source) := by
  have framed := follows_requestSafe.frame s follows
  simp only [State.pollFrame]
  split
  · exact follows_requestSafe.count _ _ framed
  · split
    · exact setRing_follows framed ⟨framed.ring.bypass, framed.ring.undriven⟩
    · exact framed

theorem delimiterIn_follows {s : State} (follows : Follows s) : Follows s.delimiterIn :=
  have cut := cut_follows follows.ring
  setRing_follows follows ⟨cut.bypass, cut.undriven⟩

theorem discardFrame_follows {s : State} (follows : Follows s) (content : List Bool) :
    Follows (s.discardFrame content) := by
  unfold State.discardFrame
  split
  · exact follows_requestSafe.count _ _ (follows_requestSafe.frame s follows)
  · exact delimiterIn_follows follows

/-! ## Restarts -/

theorem restart_follows (s : State) (follows : Follows s) : Follows s.restart where
  notices := by simp [AttentionFollows, State.restart, NoticeUnit.restart, NoticeUnit.settle]
  heads h := by
    have port : s.restart.heads[h] = (s.head h).restart := by simp [State.restart]
    rw [port]
    exact headRestart_follows _
  ring := ⟨follows.ring.bypass, follows.ring.undriven⟩
  tracker := trackerRestart_follows _

theorem applySupply_follows (s : State) (straps : BitVec 2) : Follows (s.applySupply straps) where
  notices := by simp [AttentionFollows, State.applySupply, State.powerOn, NoticeUnit.powerOn, NoticeUnit.settle]
  heads h := by
    have port : (s.applySupply straps).heads[h] = .powerOn h := by simp [State.applySupply, State.powerOn]
    rw [port]
    exact headPowerOn_follows h
  ring := ⟨rfl, fun _ => rfl⟩
  tracker := trackerPowerOn_follows _

/-! ## Every step -/

theorem exec_follows (i : Instr) (s t : State) (follows : Follows s) (next : exec i s = .next t) : Follows t := by
  have safe := follows_requestSafe
  have ring := follows.ring
  have tracker := follows.tracker
  cases i with
  | arm h id f => exact answering_keeps safe (arm_follows id f) follows next
  | disarm h ref => exact answering_keeps safe (withRecord_keeps fun i u _ => disarm_follows i u) follows next
  | lookup | readStrips | readZones =>
    exact answering_keeps safe (withRecord_keeps fun _ _ _ kept => kept) follows next
  | find | templateRead | headRead | materialRead | poolStatus | limitRead | partStatus | countersRead =>
    exact reading_keeps safe follows next
  | amend h ref f => exact answering_keeps safe (withRecord_keeps fun i u _ => amend_follows f i u) follows next
  | templateWrite h f => exact answering_keeps safe (templateWrite_follows f) follows next
  | trackerSet h f => exact answering_keeps safe (trackerSet_follows f) follows next
  | headSet h head f => exact answering_keeps safe (headSet_follows head f) follows next
  | headEnable h head => exact answering_keeps safe (headEnable_follows head) follows next
  | headDisable h head => exact answering_keeps safe (headDisable_follows head) follows next
  | materialWrite h entry f => exact answering_keeps safe (materialWrite_follows entry f) follows next
  | materialClear h entry => exact answering_keeps safe (materialClear_follows entry) follows next
  | poolSet h setting => exact answering_keeps safe (poolSet_follows setting) follows next
  | limitWrite h set f => exact answering_keeps safe (limitWrite_follows set f) follows next
  | rejudge h ref => exact answering_keeps safe (withRecord_keeps fun i u _ => rejudge_follows i u) follows next
  | claim h ref => exact answering_keeps safe (withRecord_keeps fun i u _ => claim_follows h.source i u) follows next
  | release h ref => exact answering_keeps safe (withRecord_keeps fun i u _ => release_follows h.source i u) follows next
  | retireNow h ref octet =>
    exact answering_keeps safe (withRecord_keeps fun i u _ => retire_follows (nowOption octet) i u) follows next
  | retireDeferred h ref =>
    exact answering_keeps safe (withRecord_keeps fun i u _ => retire_follows .deferred i u) follows next
  | retireForce h ref =>
    exact answering_keeps safe (withRecord_keeps fun i u _ => retire_follows .force i u) follows next
  | setAddress h part => exact answering_keeps safe (setAddress_follows part) follows next
  | stationsWrite h f => exact answering_keeps safe (stationsWrite_follows f) follows next
  | joinRing h => exact answering_keeps safe joinRing_follows follows next
  | leaveRing h => exact answering_keeps safe leaveRing_follows follows next
  | noticeMask h mask => exact answering_keeps safe (noticeMask_follows mask) follows next
  | fetchNotice h => exact answering_keeps safe fetchNotice_follows follows next
  | countersClear h => exact answering_keeps safe countersClear_follows follows next
  | restart h => exact answering_keeps safe restart_follows follows next
  | malformed | ignoredBroadcast =>
    exact Host.Outcome.next.inj next ▸ request_keeps safe (fun _ kept => kept) follows _ _ _
  | poll dest source => exact Host.Outcome.next.inj next ▸ pollFrame_follows follows dest source
  | frameDiscard content => exact Host.Outcome.next.inj next ▸ discardFrame_follows follows content
  | longFrame =>
    have framed := frame_follows ring
    exact Host.Outcome.next.inj next ▸ safe.count _ _ (setRing_follows follows ⟨framed.bypass, framed.undriven⟩)
  | abort =>
    have cut := cut_follows ring
    exact Host.Outcome.next.inj next ▸ safe.count _ _ (setRing_follows follows ⟨cut.bypass, cut.undriven⟩)
  | idleRun => exact Host.Outcome.next.inj next ▸ setRing_follows follows (idleRun_follows ring)
  | takeTurn => exact Host.Outcome.next.inj next ▸ setRing_follows follows (takeTurn_follows ring)
  | replySent => exact Host.Outcome.next.inj next ▸ setRing_follows follows (replySent_follows ring)
  | turnEnd => exact Host.Outcome.next.inj next ▸ setRing_follows follows (turnEnd_follows ring)
  | cutEnd => exact Host.Outcome.next.inj next ▸ setRing_follows follows (cutEnd_follows ring)
  | turnCut | delimiterReceived => exact Host.Outcome.next.inj next ▸ delimiterIn_follows follows
  | entryChange => exact Host.Outcome.next.inj next ▸ setTracker_follows follows (rawChange_follows tracker)
  | spinPulse =>
    exact Host.Outcome.next.inj next ▸ setTracker_follows follows ⟨tracker.stall, tracker.spin, tracker.candidate⟩
  | indexPulse => exact Host.Outcome.next.inj next ▸ setTracker_follows follows (index_follows tracker)
  | litEdge => exact litEdge_follows follows next
  | darkEdge => exact darkEdge_follows follows next
  | advancePulse => exact Host.Outcome.next.inj next ▸ advancePulse_follows follows
  | stall =>
    obtain rfl := Host.Outcome.next.inj next
    split
    · exact stallAll_follows follows
    · exact follows
  | spinTimeout => exact spinTimeout_follows follows next
  | headReport port octets => exact Host.Outcome.next.inj next ▸ octetsIn_follows port _ follows
  | corrupt port octets =>
    have taken := octetsIn_follows port octets follows
    obtain rfl := Host.Outcome.next.inj next
    split
    · exact lineGap_follows taken port
    · exact taken
  | stray port octets => exact Host.Outcome.next.inj next ▸ lineGap_follows (octetsIn_follows port octets follows) port
  | silenceTimeout port => exact silenceTimeout_follows follows next
  | shotService => exact Host.Outcome.next.inj next ▸ shotService_follows follows
  | rejudgeStep => exact Host.Outcome.next.inj next ▸ rejudgeStep_follows follows
  | powerOn straps => exact Host.Outcome.next.inj next ▸ applySupply_follows s straps
  | lineIdleGap port => exact Host.Outcome.next.inj next ▸ lineGap_follows follows port

/-- Settles O53: every change of a unit leaves it settled or leaves alone what its lines and timers follow. -/
theorem stepKeepsLinesFollowing : Obligations.StepKeepsLinesFollowing := by
  intro s t lines candidate next
  refine (follows_iff t).mp (step_keeps (P := Follows) (fun _ _ kept => kept) (fun u b rest kept => ?_) exec_follows
    ((follows_iff s).mpr ⟨lines, candidate⟩) next)
  exact setRing_follows kept (bitTime_follows kept.ring b)

end Sys2Proof.Proofs

/-! SUPPORT. The shell tracker's own commands: TRACKER SET, the spin pulses and the spin timeout, the stamp of a report, and the advance pulse. -/

namespace Sys2Proof.Proofs

open Sys2Proof.Machine Sys2Proof.Laws

/-! ## TRACKER SET -/

/-- The first of the seven tracker settings out of its range. -/
theorem trackerChecks_eq (f : TrackerFields) : firstBad 1 (TrackerFields.checks f) =
    if f.advanceScale.toNat < 100 ∨ 20000 < f.advanceScale.toNat then some 1
    else if f.headPlane.toNat < 200 ∨ 5000 < f.headPlane.toNat then some 2
    else if 500 < f.closeDistance.toNat then some 3
    else if f.stallTime.toNat < 100 ∨ 10000 < f.stallTime.toNat then some 4
    else if f.spinPulses.toNat < 64 ∨ 4096 < f.spinPulses.toNat then some 5
    else if f.spinTimeout.toNat < 50 ∨ 5000 < f.spinTimeout.toNat then some 6
    else if f.debounce.toNat < 1 ∨ 50 < f.debounce.toNat then some 7 else none := by
  simp only [TrackerFields.checks, firstBad_within, Nat.not_lt_zero, false_or]
  rfl

theorem trackerSet_busy {s : State} (open_ : s.tracker.contexts ≠ [] ∨ s.tracker.blind = true) (f : TrackerFields) :
    trackerSet f s = (s, .refuse .busy 0 s.tracker.settings.octets) := by rw [trackerSet, if_pos open_]

theorem trackerSet_bad {s : State} (closed : ¬(s.tracker.contexts ≠ [] ∨ s.tracker.blind = true)) {f : TrackerFields}
    {field : Nat} (bad : firstBad 1 (TrackerFields.checks f) = some field) :
    trackerSet f s = (s, .refuse .range field s.tracker.settings.octets) := by rw [trackerSet, if_neg closed, bad]

theorem trackerSet_good {s : State} (closed : ¬(s.tracker.contexts ≠ [] ∨ s.tracker.blind = true)) {f : TrackerFields}
    (good : firstBad 1 (TrackerFields.checks f) = none) : trackerSet f s =
      (s.setTracker { s.tracker with settings := TrackerFields.settings f }, .done (TrackerFields.settings f).octets) := by
  rw [trackerSet, if_neg closed, good]

/-- Settles O20: a passage open, the seven checks in order, and the settings stored. -/
theorem trackerSetStoresSettings : Obligations.TrackerSetStoresSettings := by
  refine fun s h f ok => ⟨fun open_ => ?_, fun contexts seeing => ?_⟩
  · exact answering_ran ok (trackerSet_busy (s := s.frameIn) open_ f) rfl
  · have closed : ¬(s.tracker.contexts ≠ [] ∨ s.tracker.blind = true) := by simp [contexts, seeing]
    have refused (field : Nat) (bad : firstBad 1 (TrackerFields.checks f) = some field) :=
      answering_ran ok (trackerSet_bad (s := s.frameIn) closed bad) rfl
    have checks := trackerChecks_eq f
    show answering h rowTrackerSet (trackerSet f) s = _
    dsimp only
    split_ifs at checks ⊢
    iterate 7 exact refused _ checks
    exact answering_ran ok (trackerSet_good (s := s.frameIn) closed checks) rfl

/-! ## Spin -/

/-- The spin count differs from the pulses per revolution by more than their sixty-fourth part, on either side (R36). -/
theorem slipped_iff (t : Tracker) : t.slipped = true ↔
    t.settings.spinPulses + t.settings.spinPulses / 64 < t.spinCount.toNat ∨
      t.spinCount.toNat + t.settings.spinPulses / 64 < t.settings.spinPulses := by
  rw [Tracker.slipped, decide_eq_true_eq]
  omega

theorem index_slips_slipped {t : Tracker} (synced : t.spin = .synced) (slipped : t.slipped = true) :
    t.index.slips = countUp t.slips := if_pos ⟨synced, slipped⟩

theorem index_slips_kept {t : Tracker} (kept : t.spin = .unsynced ∨ t.slipped = false) : t.index.slips = t.slips :=
  if_neg fun ⟨synced, slipped⟩ => by rcases kept with is | is <;> simp_all

/-- A history flag set twice is set. -/
theorem flag_twice (r : Record) (k : HistoryFlag) : (r.flag k).flag k = r.flag k := by
  simp [Record.flag, BitVec.or_assoc]

/-- The flagging of the records bound to contexts reaches those records alone, each as if once. -/
theorem foldl_flag_slot (k : HistoryFlag) (cs : List Context) (s : State) (i : Fin Config.slots) :
    (cs.foldl (fun u c => u.modSlot c.slot fun r => r.flag k) s).slot i =
      if ∃ c ∈ cs, c.slot = i then (s.slot i).flag k else s.slot i := by
  induction cs generalizing s with
  | nil => simp
  | cons c rest ih =>
    rw [List.foldl_cons, ih, modSlot_slot]
    by_cases here : c.slot = i
    · subst here
      simp [flag_twice]
    · simp [here]

theorem flagBound_slot (s : State) (k : HistoryFlag) (i : Fin Config.slots) : (s.flagBound k).slot i =
    if ∃ c ∈ s.tracker.contexts, c.slot = i then (s.slot i).flag k else s.slot i :=
  foldl_flag_slot k s.tracker.contexts s i

/-- The flagging of the bound records changes no more than records. -/
theorem flagBound_eq (s : State) (k : HistoryFlag) : s.flagBound k = { s with slots := (s.flagBound k).slots } := by
  refine foldl_contexts_keeps (P := fun u => u = { s with slots := u.slots }) (fun u c kept => ?_) _ rfl
  rw [kept]
  rfl

theorem spinLost_mask : HistoryFlag.spinLost.mask = 0x001#10 := by decide

theorem loseSpin_quiet {s : State} (quiet : s.tracker.contexts = []) :
    s.loseSpin = s.setTracker { s.tracker with spin := .unsynced, spinTimer := .stopped } := if_pos quiet

theorem loseSpin_open {s : State} (open_ : s.tracker.contexts ≠ []) : s.loseSpin =
    ((s.setTracker { s.tracker with spin := .unsynced, spinTimer := .stopped }).flagBound .spinLost).raise .spinLost
      .none := if_neg open_

/-- The records bound to a context when synchronism is lost are flagged, and no other (R37). -/
theorem loseSpin_open_slot {s : State} (open_ : s.tracker.contexts ≠ []) (i : Fin Config.slots) : s.loseSpin.slot i =
    if ∃ c ∈ s.tracker.contexts, c.slot = i then (s.slot i).flag .spinLost else s.slot i := by
  rw [loseSpin_open open_, raise_slot]
  exact flagBound_slot _ _ i

/-- Settles O27: the two pulses, and the timeout with and without contexts open. -/
theorem spinKeepsTurn : Obligations.SpinKeepsTurn := by
  intro s
  have timeout : exec .spinTimeout s = .next (if s.tracker.spin = .synced then s.loseSpin else s) := rfl
  refine ⟨rfl, ⟨_, rfl, rfl, fun synced off => ?_, fun kept => ?_⟩, fun unsynced => ?_, fun synced => ?_⟩
  · exact index_slips_slipped synced ((slipped_iff _).mpr off)
  · refine index_slips_kept (kept.imp_right fun near => ?_)
    rw [← Bool.not_eq_true, slipped_iff]
    omega
  · rw [timeout, if_neg (by simp [unsynced])]
  · refine ⟨s.loseSpin, by rw [timeout, if_pos synced], ?_⟩
    by_cases quiet : s.tracker.contexts = []
    · rw [loseSpin_quiet quiet]
      refine ⟨rfl, fun i ⟨c, mem, _⟩ => ?_, fun i _ => rfl, (if_pos quiet).symm, rfl⟩
      simp [quiet] at mem
    · refine ⟨?_, fun i bound => ?_, fun i away => ?_, ?_, ?_⟩
      · rw [loseSpin_open quiet, raise_tracker, flagBound_eq]
        rfl
      · rw [loseSpin_open_slot quiet, if_pos bound, Record.flag, spinLost_mask]
      · rw [loseSpin_open_slot quiet, if_neg fun ⟨c, mem, bound⟩ => away c mem bound]
      · rw [if_neg quiet, loseSpin_open quiet]
        refine raise_notices_congr ?_ _ _
        rw [flagBound_eq]
        rfl
      · rw [loseSpin_open quiet, flagBound_eq]
        rfl

/-! ## Stamps -/

/-- The head distance of a context lies on its shell: from 0 on, and below the length for a FINISHING context (R41). -/
theorem covers_iff (s : State) (p : Fin Config.heads) (c : Context) : s.covers p c = true ↔
    0 ≤ s.tracker.headDistance c (s.head p).settings.offset ∧
      (c.role = .finishing →
        s.tracker.headDistance c (s.head p).settings.offset < ((s.slot c.slot).length.getD 0 : Int)) := by
  unfold State.covers
  cases role : c.role <;> simp

theorem attributed_none {s : State} {p : Fin Config.heads} (uncovered : ∀ c ∈ s.tracker.contexts, ¬s.covers p c = true) :
    s.attributed p = none := by
  rw [State.attributed, List.find?_eq_none]
  intro c mem
  rcases List.mem_append.mp mem with finishing | measuring
  · exact uncovered c (List.mem_of_mem_filter finishing)
  · exact uncovered c (List.mem_of_mem_filter measuring)

/-- The first context of a role that covers the head, when none before it does in that role. -/
theorem find_in_role {role : Role} {covers : Context → Bool} {before after : List Context} {c : Context}
    (is : c.role = role) (covered : covers c = true) (earlier : ∀ b ∈ before, covers b = true → b.role ≠ role) :
    ((before ++ c :: after).filter fun b => decide (b.role = role)).find? covers = some c := by
  have passed : before.find? (fun b => decide (decide (b.role = role) = true ∧ covers b = true)) = none := by
    rw [List.find?_eq_none]
    intro b mem taken
    simp only [decide_eq_true_eq] at taken
    exact earlier b mem taken.2 taken.1
  rw [List.find?_filter, List.find?_append, passed, Option.none_or, List.find?_cons_of_pos (by simp [is, covered])]

/-- The first FINISHING context that covers the head takes the report (R41). -/
theorem attributed_finishing {s : State} {p : Fin Config.heads} {before after : List Context} {c : Context}
    (contexts : s.tracker.contexts = before ++ c :: after) (role : c.role = .finishing) (covered : s.covers p c = true)
    (earlier : ∀ b ∈ before, s.covers p b = true → b.role ≠ .finishing) : s.attributed p = some c := by
  rw [State.attributed, contexts, List.find?_append, find_in_role role covered earlier]
  rfl

/-- With no FINISHING context on the head, the first MEASURING one that covers it takes the report (R41). -/
theorem attributed_measuring {s : State} {p : Fin Config.heads} {before after : List Context} {c : Context}
    (contexts : s.tracker.contexts = before ++ c :: after) (role : c.role = .measuring) (covered : s.covers p c = true)
    (earlier : ∀ b ∈ before, s.covers p b = true → b.role ≠ .measuring)
    (unfinished : ∀ b ∈ s.tracker.contexts, b.role = .finishing → ¬s.covers p b = true) : s.attributed p = some c := by
  have passed : (s.tracker.contexts.filter fun b => decide (b.role = .finishing)).find? (s.covers p) = none := by
    rw [List.find?_eq_none]
    intro b mem
    obtain ⟨mem, finishing⟩ := List.mem_filter.mp mem
    exact unfinished b mem (of_decide_eq_true finishing)
  rw [State.attributed, List.find?_append, passed, Option.none_or, contexts, find_in_role role covered earlier]

theorem stamp_unplaced {s : State} {p : Fin Config.heads} (untaken : s.attributed p = none) : s.stamp p = .unplaced := by
  rw [State.stamp, untaken]
  split <;> rfl

theorem stamp_placed {s : State} {p : Fin Config.heads} {c : Context} (synced : s.tracker.spin = .synced)
    (taken : s.attributed p = some c) : s.stamp p = .placed c.slot c.generation
      (min 1024 ((s.tracker.headDistance c (s.head p).settings.offset).toNat / (s.slot c.slot).shell.pitch))
      s.tracker.angle (sectorOf (s.slot c.slot).shell.hand (s.head p).settings.angle s.tracker.angle) := by
  rw [State.stamp, if_neg (by simp [synced]), taken]
  rfl

theorem sectorOf_forward (theta a : Nat) : (sectorOf .forward theta a).val = (theta + a) % 4096 * 12 / 4096 := by
  show (theta + a) % 4096 * 12 / 4096 % 12 = _
  omega

/-- The modulo of a negative difference is taken between 0 and 4,095 (R43). -/
theorem sectorOf_counter (theta a : Nat) :
    ((sectorOf .counter theta a).val : Int) = ((theta : Int) - (a : Int)).emod 4096 * 12 / 4096 := by
  show (((((theta : Int) - (a : Int)) % 4096).toNat * 12 / 4096 % 12 : Nat) : Int) =
    ((theta : Int) - (a : Int)) % 4096 * 12 / 4096
  obtain ⟨angle, is⟩ := Int.eq_ofNat_of_zero_le (Int.emod_nonneg ((theta : Int) - (a : Int)) (by decide : (4096 : Int) ≠ 0))
  have small : angle * 12 / 4096 < 12 := by omega
  rw [is, Int.toNat_natCast, Nat.mod_eq_of_lt small]
  rfl

/-- Settles O23: UNSYNCED, no context on the head, and the context that takes the report by its role. -/
theorem reportsAreStamped : Obligations.ReportsAreStamped := by
  refine fun s p => ⟨fun unsynced => if_pos unsynced, fun uncovered => ?_, fun before c after synced contexts covered earlier
    unfinished => ?_⟩
  · exact stamp_unplaced (attributed_none fun c mem is => uncovered c mem ((covers_iff s p c).mp is))
  · have on := (covers_iff s p c).mpr covered
    have taken : s.attributed p = some c := by
      cases role : c.role with
      | finishing =>
        refine attributed_finishing contexts role on fun b mem is => ?_
        simp [(earlier b mem ((covers_iff s p b).mp is)).1]
      | measuring =>
        refine attributed_measuring contexts role on (fun b mem is => ?_) fun b mem finishing is =>
          unfinished role b mem finishing ((covers_iff s p b).mp is)
        have finishing := (earlier b mem ((covers_iff s p b).mp is)).2
        simp [role] at finishing
    refine ⟨_, stamp_placed synced taken, fun forward => ?_, fun counter => ?_⟩
    · rw [forward]
      exact sectorOf_forward _ _
    · rw [counter]
      exact sectorOf_counter _ _

/-! ## Advance pulses -/

/-- A running maximum ends at the value that bounds every item and is taken by one. -/
theorem foldl_max_eq {α : Type} (f : α → Int) {top : Int} (l : List α) {m : Int} (start : m ≤ top)
    (most : ∀ a ∈ l, f a ≤ top) (taken : m = top ∨ ∃ a ∈ l, f a = top) :
    l.foldl (fun m a => max m (f a)) m = top := by
  induction l generalizing m with
  | nil => simpa using taken
  | cons a rest ih =>
    have here := most a List.mem_cons_self
    refine ih (max_le start here) (fun b mem => most b (List.mem_cons_of_mem a mem)) ?_
    rcases taken with is | ⟨b, mem, is⟩
    · exact .inl (is ▸ max_eq_left (is ▸ here))
    · rcases List.mem_cons.mp mem with rfl | later
      · exact .inl (is ▸ max_eq_right (is ▸ start))
      · exact .inr ⟨b, later, is⟩

/-- The rearmost head is one with the largest offset (R34). -/
theorem rearmostOffset_eq {s : State} {rear : Int} (taken : ∃ p, (s.head p).settings.offset = rear)
    (most : ∀ p, (s.head p).settings.offset ≤ rear) : s.rearmostOffset = rear := by
  obtain ⟨p, is⟩ := taken
  exact foldl_max_eq (fun h => (s.head h).settings.offset) _ (most 0) (fun h _ => most h) (.inr ⟨p, List.mem_finRange p, is⟩)

/-- Two states in which a context stands at the same distance from the rearmost head. -/
structure SamePositions (s t : State) : Prop where
  advance : t.tracker.advance = s.tracker.advance
  settings : t.tracker.settings = s.tracker.settings
  heads : t.heads = s.heads

theorem SamePositions.rearDistance {s t : State} (same : SamePositions s t) (c : Context) :
    t.rearDistance c = s.rearDistance c := by
  simp only [State.rearDistance, State.rearmostOffset, State.head, Tracker.headDistance, Tracker.distance, same.advance,
    same.settings, same.heads]

theorem completeRecord_positions {s t : State} (same : SamePositions s t) (i : Fin Config.slots) :
    SamePositions s (t.completeRecord i) := by
  have filled : SamePositions s (t.fillStrips i).1 :=
    allocStrips_keeps (P := SamePositions s)
      (fun u v kept evicted => by
        obtain ⟨j, -, -, -, rfl⟩ := evict_some evicted
        exact ⟨kept.advance, kept.settings, kept.heads⟩)
      (fun u kept _ => ⟨kept.advance, kept.settings, kept.heads⟩) _ ⟨same.advance, same.settings, same.heads⟩
  rw [completeRecord_eq, (concluded_concludes _ i _).whole]
  exact ⟨filled.advance, filled.settings, filled.heads⟩

/-- One context at an advance pulse with the rearmost head at distance `d`: its closes, and the completion of a FINISHING record that has passed by the close distance (R44). -/
def advancedBy (d : Int) (close : Nat) (u : State) (c : Context) : State :=
  let r := u.slot c.slot
  let v := u.setSlot c.slot (r.closeStrips (u.limit r.shell.limitSet) fun k =>
    decide (((k : Int) + 1) * (r.shell.pitch : Int) + (close : Int) < d))
  if c.role = .finishing ∧ ((r.length.getD 0 : Nat) : Int) + (close : Int) < d then v.completeRecord c.slot else v

theorem closeBehind_eq (u : State) (i : Fin Config.slots) (d : Int) : u.closeBehind i d =
    u.setSlot i ((u.slot i).closeStrips (u.limit (u.slot i).shell.limitSet) fun k =>
      decide (((k : Int) + 1) * ((u.slot i).shell.pitch : Int) + (u.tracker.settings.closeDistance : Int) < d)) := by
  simp only [State.closeBehind, State.modSlot, Nat.cast_add, Nat.cast_mul, Nat.cast_one]

/-- The closes of a context do not touch the length by which its record passes. -/
theorem passed_closeBehind (u : State) (c : Context) (d : Int) : (u.closeBehind c.slot d).passed c d = true ↔
    c.role = .finishing ∧
      (((u.slot c.slot).length.getD 0 : Nat) : Int) + (u.tracker.settings.closeDistance : Int) < d := by
  have length : ((u.closeBehind c.slot d).slot c.slot).length = (u.slot c.slot).length := by
    rw [closeBehind_eq, setSlot_slot_same]
    exact (sameShell_closeStrips _ _ _).length
  have settings : (u.closeBehind c.slot d).tracker = u.tracker := rfl
  rw [State.passed, decide_eq_true_eq, length, settings, Nat.cast_add]

theorem advanceContext_eq (u : State) (c : Context) :
    u.advanceContext c = advancedBy (u.rearDistance c) u.tracker.settings.closeDistance u c := by
  simp only [State.advanceContext, passed_closeBehind]
  rw [closeBehind_eq]
  rfl

theorem advanceContext_positions {s u : State} (same : SamePositions s u) (c : Context) :
    SamePositions s (u.advanceContext c) := by
  have closed : SamePositions s (u.closeBehind c.slot (u.rearDistance c)) := ⟨same.advance, same.settings, same.heads⟩
  simp only [State.advanceContext]
  split
  · exact completeRecord_positions closed c.slot
  · exact closed

/-- The contexts at an advance pulse, each by its distance as the pulse found it: no completion on the way moves a context or a head. -/
theorem foldl_advanceContext_eq {s u : State} (same : SamePositions s u) (cs : List Context) :
    cs.foldl State.advanceContext u =
      cs.foldl (fun u c => advancedBy (s.rearDistance c) s.tracker.settings.closeDistance u c) u := by
  induction cs generalizing u with
  | nil => rfl
  | cons c rest ih =>
    rw [List.foldl_cons, List.foldl_cons, ih (advanceContext_positions same c), advanceContext_eq, same.rearDistance,
      same.settings]

/-- Settles O25: the count, then each context by the distance that the count gives it. -/
theorem advanceCountsAndCloses : Obligations.AdvanceCountsAndCloses := by
  intro s rear taken most
  have advanced := foldl_advanceContext_eq (s := s.setTracker s.tracker.pulse) ⟨rfl, rfl, rfl⟩ s.tracker.contexts
  have offset : (s.setTracker s.tracker.pulse).rearmostOffset = rear := rearmostOffset_eq taken most
  simp only [State.rearDistance, offset] at advanced
  exact congrArg Host.Outcome.next advanced

end Sys2Proof.Proofs

/-! SUPPORT. The head ports: their lines and ready lines, and the four head commands. -/

namespace Sys2Proof.Proofs

open Sys2Proof.Machine Sys2Proof.Laws

/-! ## A port and its line -/

theorem setHead_self (s : State) (p : Fin Config.heads) : s.setHead p (s.head p) = s := by
  simp [State.setHead, State.head]

theorem setHead_setHead (s : State) (p : Fin Config.heads) (q q' : HeadPort) :
    (s.setHead p q).setHead p q' = s.setHead p q' := by
  simp [State.setHead]

/-- The ready line follows the port's state, its full-queue mode and its queue (R53). -/
theorem headSettle_eq (q : HeadPort) : q.settle = { q with
    ready := decide (q.state ≠ .disabled ∧ (q.settings.mode = .drop ∨ q.queue.length < q.settings.depth)) } := by
  rw [HeadPort.settle, HeadPort.enabled]
  cases q.settings.mode <;> simp

@[simp] theorem setLine_head (s : State) (p : Fin Config.heads) (line : LineRun) :
    (s.setLine p line).head p = { s.head p with line } := setHead_head_same s p _

theorem setLine_line (s : State) (p : Fin Config.heads) (line : LineRun) : ((s.setLine p line).head p).line = line :=
  congrArg HeadPort.line (setLine_head s p line)

theorem setLine_setLine (s : State) (p : Fin Config.heads) (line line' : LineRun) :
    (s.setLine p line).setLine p line' = s.setLine p line' := by
  rw [State.setLine, setLine_head]
  exact setHead_setHead s p _ _

theorem setLine_self {s : State} {p : Fin Config.heads} {line : LineRun} (is : (s.head p).line = line) :
    s.setLine p line = s := by
  subst is
  exact setHead_self s p

theorem setLine_setHead (s : State) (p : Fin Config.heads) (q : HeadPort) (line : LineRun) :
    (s.setHead p q).setLine p line = s.setHead p { q with line } := by
  rw [State.setLine, setHead_head_same, setHead_setHead]

theorem setHead_setLine (s : State) (p : Fin Config.heads) (q : HeadPort) (line : LineRun) :
    (s.setLine p line).setHead p q = s.setHead p q := setHead_setHead s p _ q

theorem setLine_countHead (s : State) (p : Fin Config.heads) (c : HeadCounter) (line : LineRun) :
    (s.countHead p c).setLine p line = s.setHead p { (s.head p).count c with line } := setLine_setHead s p _ line

/-! ## The head commands -/

theorem headOf_named {b : Byte} {p : Fin Config.heads} (names : b.toNat = p.val + 1) : headOf b = some p := by
  have last := p.isLt
  rw [headOf, dif_pos ⟨by omega, by omega⟩]
  simp [names]

theorem headOf_unnamed {b : Byte} (outside : b.toNat = 0 ∨ 6 < b.toNat) : headOf b = none :=
  dif_neg fun ⟨first, last⟩ => by
    have last : b.toNat ≤ 6 := last
    omega

/-- The codes 0 and 1 name a value, and no other code does. -/
theorem twoCodes_isSome {α : Type} (b : Byte) (x y : α) :
    (if b = 0 then some x else if b = 1 then some y else none).isSome = within 0 1 b.toNat := by
  rw [← handOf_isSome, handOf]
  split_ifs <;> rfl

theorem twoCodes_value {α : Type} {b : Byte} (small : b.toNat ≤ 1) (x y d : α) :
    (if b = 0 then some x else if b = 1 then some y else none).getD d = if b.toNat = 0 then x else y := by
  have zero : b = 0 ↔ b.toNat = 0 := BitVec.toNat_inj.symm
  have one : b = 1 ↔ b.toNat = 1 := BitVec.toNat_inj.symm
  simp only [zero, one]
  split
  · rfl
  · rw [if_pos (by omega)]
    rfl

theorem firstBad_decide (n : Nat) (c : Prop) [Decidable c] (rest : List Bool) :
    firstBad n (decide c :: rest) = if c then firstBad (n + 1) rest else some n := by
  simp [firstBad]

/-- The first of the six head settings out of its range. -/
theorem headChecks_eq (f : HeadFields) : firstBad 1 (HeadFields.checks f) =
    if 4095 < f.angle.toNat then some 1
    else if f.offset.toInt < -200 ∨ 200 < f.offset.toInt then some 2
    else if 1 < f.form.toNat then some 3
    else if f.depth.toNat ≠ 1 ∧ f.depth.toNat ≠ 8 then some 4
    else if 1 < f.mode.toNat then some 5
    else if f.silence.toNat < 1 ∨ 250 < f.silence.toNat then some 6 else none := by
  have offset : (f.offset.toInt < -200 ∨ 200 < f.offset.toInt) ↔ ¬(-200 ≤ f.offset.toInt ∧ f.offset.toInt ≤ 200) := by
    omega
  have depth : (f.depth.toNat ≠ 1 ∧ f.depth.toNat ≠ 8) ↔ ¬(f.depth = 1 ∨ f.depth = 8) := by
    rw [not_or, ← BitVec.toNat_inj, ← BitVec.toNat_inj]
    rfl
  have form : (formOf f.form).isSome = within 0 1 f.form.toNat := twoCodes_isSome _ _ _
  have mode : (modeOf f.mode).isSome = within 0 1 f.mode.toNat := twoCodes_isSome _ _ _
  simp only [HeadFields.checks, form, mode, firstBad_within, firstBad_decide, Nat.not_lt_zero, false_or, offset, depth,
    ite_not]
  rfl

theorem headSettings_eq {f : HeadFields} (form : f.form.toNat ≤ 1) (mode : f.mode.toNat ≤ 1) :
    HeadFields.settings f = {
      angle := f.angle.toNat, offset := f.offset.toInt, form := if f.form.toNat = 0 then .basic else .full
      depth := f.depth.toNat, mode := if f.mode.toNat = 0 then .hold else .drop, silence := f.silence.toNat } := by
  rw [HeadFields.settings, formOf, modeOf, twoCodes_value form, twoCodes_value mode]

section Named

variable {n : Byte} {p : Fin Config.heads} {s : State}

theorem headSet_enabled (named : headOf n = some p) (enabled : (s.head p).state ≠ .disabled) (f : HeadFields) :
    headSet n f s = (s, .refuse .state 0 (s.head p).settings.octets) := by simp only [headSet, named, if_pos enabled]

theorem headSet_bad (named : headOf n = some p) (disabled : ¬(s.head p).state ≠ .disabled) {f : HeadFields} {field : Nat}
    (bad : firstBad 1 (HeadFields.checks f) = some field) :
    headSet n f s = (s, .refuse .range field (s.head p).settings.octets) := by
  simp only [headSet, named, if_neg disabled, bad]

theorem headSet_good (named : headOf n = some p) (disabled : ¬(s.head p).state ≠ .disabled) {f : HeadFields}
    (good : firstBad 1 (HeadFields.checks f) = none) : headSet n f s =
      (s.setHead p { s.head p with settings := HeadFields.settings f }, .done (HeadFields.settings f).octets) := by
  simp only [headSet, named, if_neg disabled, good]

theorem headEnable_enabled (named : headOf n = some p) (enabled : (s.head p).state ≠ .disabled) :
    headEnable n s = (s, .refuse .state) := by simp only [headEnable, named, if_pos enabled]

theorem headEnable_disabled (named : headOf n = some p) (disabled : ¬(s.head p).state ≠ .disabled) :
    headEnable n s = (s.setHead p (s.head p).enable, .done []) := by simp only [headEnable, named, if_neg disabled]

theorem headDisable_named (named : headOf n = some p) :
    headDisable n s = (s.setHead p (s.head p).disable, .done []) := by simp only [headDisable, named]

theorem headRead_named (named : headOf n = some p) : headRead n s = .done (s.head p).octets := by
  simp only [headRead, named]

end Named

/-- What HEAD ENABLE makes of a port (R57). -/
theorem enable_eq (q : HeadPort) : q.enable = { q with
    state := .idle, silenceTimer := .stopped, expected := none, line := if q.line = .idle then .idle else .ignoring
    ready := decide (q.settings.mode = .drop ∨ q.queue.length < q.settings.depth) } := by
  rw [HeadPort.enable, headSettle_eq, abandon_eq]
  simp

/-- What HEAD DISABLE makes of a port (R58). -/
theorem disable_eq (q : HeadPort) : q.disable =
    if q.state = .disabled then
      { q with counters := Vector.replicate 14 0, line := if q.line = .idle then .idle else .ignoring }
    else { q with
      state := .disabled, queue := [], silenceTimer := .stopped, expected := none, ready := false
      counters := Vector.replicate 14 0, line := if q.line = .idle then .idle else .ignoring } := by
  rw [HeadPort.disable, headSettle_eq, abandon_eq]
  simp [HeadPort.clearCounters]

/-- Settles O28: a number that names no head, then the four commands at a port. -/
theorem headCommandsAct : Obligations.HeadCommandsAct := by
  refine fun s h n => ⟨fun outside => ?_, fun p names => ?_⟩
  · have unnamed := headOf_unnamed outside
    refine ⟨fun f ok => answering_refused ok (field := 0) ?_, fun ok => answering_refused ok (field := 0) ?_,
      fun ok => answering_refused ok (field := 0) ?_, fun ok => answering_refused ok (field := 0) ?_⟩
    · simp only [headSet, unnamed]
    · simp only [headEnable, unnamed]
    · simp only [headDisable, unnamed]
    · simp only [reading, headRead, unnamed]
  · have named := headOf_named names
    refine ⟨fun f ok => ?_, fun ok => ?_, fun ok => ?_, fun ok => ?_⟩
    · show answering h rowHeadSet (headSet n f) s = _
      have checks := headChecks_eq f
      have settings := headSettings_eq (f := f)
      dsimp only
      generalize (if f.form.toNat = 0 then ReportForm.basic else .full) = form at settings ⊢
      generalize (if f.mode.toNat = 0 then QueueMode.hold else .drop) = mode at settings ⊢
      by_cases enabled : (s.head p).state ≠ .disabled
      · rw [if_pos enabled]
        exact answering_ran ok (headSet_enabled (s := s.frameIn) named enabled f) rfl
      · rw [if_neg enabled]
        split_ifs at checks ⊢
        iterate 6 exact answering_ran ok (headSet_bad (s := s.frameIn) named enabled checks) rfl
        refine (answering_ran ok (headSet_good (s := s.frameIn) named enabled checks) rfl).trans ?_
        rw [settings (by omega) (by omega)]
        rfl
    · show answering h rowHeadEnable (headEnable n) s = _
      split
      · rename_i enabled
        exact answering_ran ok (headEnable_enabled (s := s.frameIn) named enabled) rfl
      · rename_i disabled
        rw [← enable_eq]
        exact answering_ran ok (headEnable_disabled (s := s.frameIn) named disabled) rfl
    · rw [← disable_eq]
      exact answering_ran ok (headDisable_named (s := s.frameIn) named) rfl
    · have read := headRead_named (s := s.frameIn) named
      refine (reading_admitted ok (headRead n)).trans ?_
      rw [read]
      rfl

end Sys2Proof.Proofs

/-! SUPPORT. Runs on a head line: the octets gathered, the report they make, the end of a run, and the silence of a head. -/

namespace Sys2Proof.Proofs

open Sys2Proof.Machine Sys2Proof.Laws

/-! ## A valid report -/

/-- A valid report moves the port to RUNNING and restarts its silence timer; the ready line follows (R53, R54). -/
theorem keepRunning_eq (q : HeadPort) : q.keepRunning = { q with
    state := .running, silenceTimer := .running
    ready := decide (q.settings.mode = .drop ∨ q.queue.length < q.settings.depth) } := by
  rw [HeadPort.keepRunning, headSettle_eq]
  simp

theorem keepRunning_full {q : HeadPort} (full : q.settings.depth ≤ q.queue.length) : q.keepRunning = { q with
    state := .running, silenceTimer := .running, ready := decide (q.settings.mode = .drop) } := by
  rw [keepRunning_eq]
  simp [Nat.not_lt.mpr full]

theorem setLine_raise (s : State) (k : NoticeKind) (subject : Subject) (p : Fin Config.heads) (line : LineRun) :
    (s.raise k subject).setLine p line = (s.setLine p line).raise k subject := rfl

section Report

variable {s : State} {p : Fin Config.heads} {octets : List Byte}

theorem validReport_full (full : (s.head p).settings.depth ≤ (s.head p).queue.length) : s.validReport p octets =
    (s.setHead p (((s.head p).checkSequence (octets.getD 0 0)).count .overrun).keepRunning).raise .headOverrun
      (.head (headNumber p)) := if_pos (decide_eq_true full)

theorem validReport_room (room : (s.head p).queue.length < (s.head p).settings.depth) : s.validReport p octets =
    s.setHead p (HeadPort.keepRunning { (s.head p).checkSequence (octets.getD 0 0) with
      queue := (s.head p).queue ++ [reportOf (s.head p).settings.form octets (s.stamp p)] }) :=
  if_neg fun full => absurd (of_decide_eq_true full) (Nat.not_le.mpr room)

/-- The line of a port has no part in the stamp of its reports. -/
theorem stamp_setLine (s : State) (p : Fin Config.heads) (line : LineRun) : (s.setLine p line).stamp p = s.stamp p := by
  have covers : (s.setLine p line).covers p = s.covers p := by
    funext c
    simp only [State.covers, setLine_head]
    rfl
  simp only [State.stamp, State.attributed, covers, setLine_head]
  rfl

/-- A valid report does not look at the line's run. -/
theorem validReport_setLine (line line' : LineRun) :
    ((s.setLine p line).validReport p octets).setLine p line' = (s.validReport p octets).setLine p line' := by
  by_cases full : (s.head p).settings.depth ≤ (s.head p).queue.length
  · have full' : ((s.setLine p line).head p).settings.depth ≤ ((s.setLine p line).head p).queue.length := by
      rwa [setLine_head]
    rw [validReport_full full, validReport_full full', setLine_raise, setLine_raise, setLine_setHead, setLine_setHead,
      setHead_setLine, setLine_head]
    rfl
  · have room := Nat.not_le.mp full
    have room' : ((s.setLine p line).head p).queue.length < ((s.setLine p line).head p).settings.depth := by
      rwa [setLine_head]
    rw [validReport_room room, validReport_room room', setLine_setHead, setLine_setHead, setHead_setLine, setLine_head,
      stamp_setLine]
    rfl

/-! ## Octets gathered -/

theorem runReached_corrupt {fault : Bool} (bad : fault = true ∨ octets.foldl (· + ·) 0 ≠ 255) :
    s.runReached p octets fault = s.setHead p { (s.head p).count .corrupt with line := .spent true false } := by
  have counted : (fault || decide (octetSum octets ≠ 255)) = true := by
    rw [Bool.or_eq_true, decide_eq_true_eq]
    exact bad
  rw [State.runReached, if_pos counted, setLine_countHead]

theorem runReached_valid (sum : octets.foldl (· + ·) 0 = 255) :
    s.runReached p octets false = (s.validReport p octets).setLine p (.spent false false) :=
  if_neg fun wrong => absurd sum (of_decide_eq_true wrong)

/-- What the octets of a run come to does not depend on what the line held before. -/
theorem gather_setLine (line : LineRun) (fault : Bool) :
    (s.setLine p line).gather p octets fault = s.gather p octets fault := by
  rw [State.gather, State.gather, setLine_head, setLine_setLine]
  refine if_congr Iff.rfl ?_ rfl
  rw [State.runReached, State.runReached]
  refine if_congr Iff.rfl ?_ (validReport_setLine _ _)
  rw [setLine_countHead, setLine_countHead, setHead_setLine, setLine_head]
  rfl

theorem gather_short {fault : Bool} (short : octets.length < (s.head p).settings.form.octetCount) :
    s.gather p octets fault = s.setLine p (.gathering octets fault) := if_neg (Nat.not_le.mpr short)

theorem gather_reached {fault : Bool} (reached : (s.head p).settings.form.octetCount ≤ octets.length) :
    s.gather p octets fault = s.runReached p octets fault := if_pos reached

end Report

/-! ## One octet, by the run it meets -/

section Octet

variable {s : State} {p : Fin Config.heads}

theorem octetIn_ignoring (line : (s.head p).line = .ignoring) (o : RunOctet) : s.octetIn p o = s := by
  rw [State.octetIn, line]

theorem octetIn_stray (line : (s.head p).line = .stray) (o : RunOctet) : s.octetIn p o = s := by
  rw [State.octetIn, line]

theorem octetIn_disabled (line : (s.head p).line = .idle) (disabled : (s.head p).state = .disabled) (o : RunOctet) :
    s.octetIn p o = s.setLine p .stray := by
  simp [State.octetIn, line, HeadPort.enabled, disabled]

theorem octetIn_enabled (line : (s.head p).line = .idle) (enabled : (s.head p).state ≠ .disabled) (o : RunOctet) :
    s.octetIn p o = s.gather p [o.value] o.fault := by
  simp [State.octetIn, line, HeadPort.enabled, enabled]

theorem octetIn_gathering {octets : List Byte} {fault : Bool} (line : (s.head p).line = .gathering octets fault)
    (o : RunOctet) : s.octetIn p o = s.gather p (octets ++ [o.value]) (fault || o.fault) := by
  rw [State.octetIn, line]

theorem octetIn_spent {counted extra : Bool} (line : (s.head p).line = .spent counted extra) (o : RunOctet) :
    s.octetIn p o = s.setLine p (.spent counted true) := by
  rw [State.octetIn, line]

/-! ## The octets of a run -/

theorem octetsIn_append (before after : List RunOctet) :
    s.octetsIn p (before ++ after) = (s.octetsIn p before).octetsIn p after := List.foldl_append

/-- A line that an octet leaves as it is, is left so by any number of them. -/
theorem octetsIn_still (still : ∀ o, s.octetIn p o = s) (octets : List RunOctet) : s.octetsIn p octets = s := by
  induction octets with
  | nil => rfl
  | cons o rest ih =>
    show (s.octetIn p o).octetsIn p rest = s
    rw [still, ih]

/-- Octets of an enabled port's run up to the form's length are gathered (R49). -/
theorem octetsIn_gathers (line : (s.head p).line = .idle) (enabled : (s.head p).state ≠ .disabled)
    {octets : List RunOctet} (some_octet : octets ≠ []) (fits : octets.length ≤ (s.head p).settings.form.octetCount) :
    s.octetsIn p octets = s.gather p (octets.map RunOctet.value) (octets.any RunOctet.fault) := by
  induction octets using List.reverseRecOn with
  | nil => exact absurd rfl some_octet
  | append_singleton before o ih =>
    by_cases first : before = []
    · subst first
      exact (octetIn_enabled line enabled o).trans (by simp)
    · have short : (before.map RunOctet.value).length < (s.head p).settings.form.octetCount := by
        simpa using fits
      have met := octetIn_gathering (s := s.setLine p (.gathering (before.map RunOctet.value) (before.any RunOctet.fault)))
        (setLine_line s p _) o
      rw [octetsIn_append, ih first (by simpa using short.le), gather_short short]
      refine met.trans ?_
      simp [gather_setLine]

/-- Octets beyond the form's length only continue the run (R50). -/
theorem octetsIn_spent {counted extra : Bool} (line : (s.head p).line = .spent counted extra) (octets : List RunOctet) :
    s.octetsIn p octets = s.setLine p (.spent counted (extra || !octets.isEmpty)) := by
  induction octets generalizing s extra with
  | nil => exact (setLine_self line).symm.trans (by simp)
  | cons o rest ih =>
    show (s.octetIn p o).octetsIn p rest = _
    rw [octetIn_spent line, ih (setLine_line s p _), setLine_setLine]
    simp

end Octet

theorem octetCount_eq (form : ReportForm) : form.octetCount = if form = .basic then 5 else 7 := by
  cases form <;> rfl

/-- The octets of a HEAD_REPORT on an idle line that are a valid report (R49). -/
theorem headReport_valid {s : State} {p : Fin Config.heads} {octets : List Byte} (enabled : (s.head p).state ≠ .disabled)
    (line : (s.head p).line = .idle) (length : octets.length = (s.head p).settings.form.octetCount)
    (sum : octets.foldl (· + ·) 0 = 255) :
    exec (.headReport p octets) s = .next ((s.validReport p octets).setLine p (.spent false false)) := by
  have some_octet : octets ≠ [] := by
    rintro rfl
    exact absurd sum (by decide)
  have gathered := octetsIn_gathers line enabled (octets := octets.map fun o => { value := o, fault := false })
    (by simpa using some_octet) (by simp [length])
  have values : (octets.map fun o => ({ value := o, fault := false } : RunOctet)).map RunOctet.value = octets := by
    simp [Function.comp_def]
  have good : (octets.map fun o => ({ value := o, fault := false } : RunOctet)).any RunOctet.fault = false := by
    simp
  rw [values, good, gather_reached length.ge, runReached_valid sum] at gathered
  exact congrArg Host.Outcome.next gathered

/-- A two-octet field of a report, its octets one by one. -/
theorem leValue_pair (k : Nat) (octets : List Byte) :
    leValue ((octets.drop k).take 2) = (octets.getD k 0).toNat + 256 * (octets.getD (k + 1) 0).toNat := by
  induction k generalizing octets with
  | zero => rcases octets with _ | ⟨a, _ | ⟨b, rest⟩⟩ <;> simp [leValue]
  | succ k ih =>
    cases octets with
    | nil => simp [leValue]
    | cons a rest => simpa using ih rest

theorem reportOf_eq (form : ReportForm) (octets : List Byte) (stamp : Stamp) : reportOf form octets stamp = {
      sequence := octets.getD 0 0, interval := (octets.getD 1 0).toNat + 256 * (octets.getD 2 0).toNat
      amplitude := (octets.getD 3 0).toNat
      temperature := if form = .basic then none
        else some ((octets.getD 4 0).toNat + 256 * (octets.getD 5 0).toNat)
      stamp } := by
  have interval := leValue_pair 1 octets
  have temperature := leValue_pair 4 octets
  cases form <;> simp only [reportOf, interval, temperature] <;> rfl

/-- Settles O29: the run of a valid report, into a full queue and into one with room. -/
theorem reportsReachQueue : Obligations.ReportsReachQueue := by
  intro s p octets q enabled line length sum
  have reported := headReport_valid enabled line (length.trans (octetCount_eq _).symm) sum
  refine ⟨fun full => ?_, fun room => ?_⟩
  · have running := keepRunning_full (q := (q.checkSequence (octets.getD 0 0)).count .overrun) full
    rw [reported, validReport_full full, setLine_raise, setLine_setHead, running]
    rfl
  · rw [reported, validReport_room room, setLine_setHead, keepRunning_eq, reportOf_eq, List.length_append]
    rfl

/-! ## The end of a run -/

section Gap

variable {s : State} {p : Fin Config.heads}

theorem lineGap_ignoring (line : (s.head p).line = .ignoring) : s.lineGap p = s.setLine p .idle := by
  rw [State.lineGap, line]

theorem lineGap_idle (line : (s.head p).line = .idle) : s.lineGap p = s := by
  rw [State.lineGap, line]

theorem lineGap_gathering {octets : List Byte} {fault : Bool} (line : (s.head p).line = .gathering octets fault) :
    s.lineGap p = s.setHead p { (s.head p).count .corrupt with line := .idle } := by
  rw [State.lineGap, line]
  exact setLine_countHead s p _ _

theorem lineGap_spent {counted extra : Bool} (line : (s.head p).line = .spent counted extra) : s.lineGap p =
    s.setHead p { (if counted = false ∧ extra = true then (s.head p).count .corrupt else s.head p) with
      line := .idle } := by
  rw [State.lineGap, line]
  cases counted <;> cases extra
  case false.true => exact setLine_countHead s p _ _
  all_goals rfl

theorem lineGap_continued (s : State) (p : Fin Config.heads) : (s.setLine p (.spent false true)).lineGap p =
    s.setHead p { (s.head p).count .corrupt with line := .idle } := by
  rw [lineGap_spent (setLine_line s p _), if_pos ⟨rfl, rfl⟩, setHead_setLine, setLine_head]
  rfl

theorem lineGap_stray (line : (s.head p).line = .stray) :
    s.lineGap p = s.setHead p { (s.head p).count .stray with line := .idle } := by
  rw [State.lineGap, line]
  exact setLine_countHead s p _ _

/-! ## Runs that are no report -/

/-- A run on a DISABLED port is one STRAY (R50). -/
theorem stray_counted (line : (s.head p).line = .idle) (disabled : (s.head p).state = .disabled) {octets : List RunOctet}
    (some_octet : octets ≠ []) : exec (.stray p octets) s =
      .next (s.setHead p { (s.head p).count .stray with line := .idle }) := by
  obtain ⟨o, rest, rfl⟩ := List.exists_cons_of_ne_nil some_octet
  have stray : ((s.setLine p .stray).head p).line = .stray := setLine_line s p _
  have run : s.octetsIn p (o :: rest) = s.setLine p .stray := by
    show (s.octetIn p o).octetsIn p rest = _
    rw [octetIn_disabled line disabled, octetsIn_still (octetIn_stray stray)]
  refine congrArg Host.Outcome.next ?_
  rw [run, lineGap_stray stray, setHead_setLine, setLine_head]
  rfl

/-- CORRUPT ends a run that R50 counts at its end, and leaves another in progress (log entry 24). -/
theorem corrupt_eq {u : State} {octets : List RunOctet} {line : LineRun} (run : s.octetsIn p octets = u.setLine p line) :
    exec (.corrupt p octets) s =
      .next (if line.endsCorrupt = true then (u.setLine p line).lineGap p else u.setLine p line) := by
  have ends := setLine_line u p line
  rw [← run] at ends ⊢
  rw [← ends]
  rfl

/-- A run shorter than a report is one CORRUPT at its end (R50). -/
theorem corrupt_short (line : (s.head p).line = .idle) (enabled : (s.head p).state ≠ .disabled)
    {octets : List RunOctet} (some_octet : octets ≠ [])
    (short : octets.length < (s.head p).settings.form.octetCount) : exec (.corrupt p octets) s =
      .next (s.setHead p { (s.head p).count .corrupt with line := .idle }) := by
  have run := octetsIn_gathers line enabled some_octet short.le
  rw [gather_short (by simpa using short)] at run
  rw [corrupt_eq run, lineGap_gathering (setLine_line s p _), setHead_setLine, setLine_head]
  rfl

/-- The octets of a run that reaches the form's length: the first so many, then the rest (R49). -/
theorem octetsIn_reaches (line : (s.head p).line = .idle) (enabled : (s.head p).state ≠ .disabled)
    {octets : List RunOctet} {needed : Nat} (is : (s.head p).settings.form.octetCount = needed)
    (reached : needed ≤ octets.length) : s.octetsIn p octets =
      (s.runReached p ((octets.take needed).map RunOctet.value) ((octets.take needed).any RunOctet.fault)).octetsIn p
        (octets.drop needed) := by
  have length : (octets.take needed).length = needed := List.length_take_of_le reached
  have some_octet : octets.take needed ≠ [] := by
    refine List.ne_nil_of_length_pos ?_
    rw [length, ← is]
    cases (s.head p).settings.form <;> decide
  have run := octetsIn_gathers line enabled some_octet (length.trans is.symm).le
  rw [gather_reached (by rw [List.length_map, length, is])] at run
  rw [← run, ← octetsIn_append, List.take_append_drop]

/-- A run whose first octets are no report is one CORRUPT, at the octet that reaches the form's length (R50). -/
theorem corrupt_bad (line : (s.head p).line = .idle) (enabled : (s.head p).state ≠ .disabled)
    {octets : List RunOctet} {needed : Nat} (is : (s.head p).settings.form.octetCount = needed)
    (reached : needed ≤ octets.length) (bad : (octets.take needed).any RunOctet.fault = true ∨
      ((octets.take needed).map RunOctet.value).foldl (· + ·) 0 ≠ 255) : exec (.corrupt p octets) s =
      .next (s.setHead p { (s.head p).count .corrupt with line := .spent true (decide (needed < octets.length)) }) := by
  have run := octetsIn_reaches line enabled is reached
  have more : (!(octets.drop needed).isEmpty) = decide (needed < octets.length) := by
    rw [Bool.eq_iff_iff]
    simp
  have spent := octetsIn_spent (s := s.setHead p { (s.head p).count .corrupt with line := .spent true false })
    (congrArg HeadPort.line (setHead_head_same s p _)) (octets.drop needed)
  rw [runReached_corrupt bad, spent, Bool.false_or, more] at run
  exact (corrupt_eq run).trans (congrArg Host.Outcome.next (setLine_setHead s p _ _))

/-- A valid report that is continued is the report and then one CORRUPT (R50). -/
theorem corrupt_continued (line : (s.head p).line = .idle) (enabled : (s.head p).state ≠ .disabled)
    {octets : List RunOctet} {needed : Nat} (is : (s.head p).settings.form.octetCount = needed)
    (beyond : needed < octets.length) (good : (octets.take needed).any RunOctet.fault = false)
    (sum : ((octets.take needed).map RunOctet.value).foldl (· + ·) 0 = 255) :
    ∃ t : State, exec (.headReport p ((octets.take needed).map RunOctet.value)) s = .next t ∧
      exec (.corrupt p octets) s = .next (t.setHead p { (t.head p).count .corrupt with line := .idle }) := by
  have length : ((octets.take needed).map RunOctet.value).length = (s.head p).settings.form.octetCount := by
    rw [List.length_map, List.length_take_of_le beyond.le, is]
  refine ⟨_, headReport_valid enabled line length sum, ?_⟩
  have run := octetsIn_reaches line enabled is beyond.le
  have more : (octets.drop needed).isEmpty = false := by
    simpa using beyond
  rw [good, runReached_valid sum, octetsIn_spent (setLine_line _ p _), more] at run
  exact (corrupt_eq run).trans (congrArg Host.Outcome.next (lineGap_continued _ p))

end Gap

/-! ## Silence -/

theorem headSilent_mask : HistoryFlag.headSilent.mask = 0x020#10 := by decide

theorem silenceTimeout_eq (s : State) (p : Fin Config.heads) : exec (.silenceTimeout p) s =
    .next (if (s.head p).state = .running then s.fallSilent p else s) := rfl

theorem fallSilent_quiet {s : State} (quiet : s.tracker.contexts = []) (p : Fin Config.heads) :
    s.fallSilent p = s.setHead p { s.head p with state := .idle, silenceTimer := .stopped } := if_pos quiet

theorem fallSilent_open {s : State} (open_ : s.tracker.contexts ≠ []) (p : Fin Config.heads) : s.fallSilent p =
    ((s.setHead p { s.head p with state := .silent, silenceTimer := .stopped }).flagBound .headSilent).raise .headSilent
      (.head (headNumber p)) := if_neg open_

/-- The records bound to a context when a head falls silent are flagged, and no other (R55). -/
theorem fallSilent_open_slot {s : State} (open_ : s.tracker.contexts ≠ []) (p : Fin Config.heads) (i : Fin Config.slots) :
    (s.fallSilent p).slot i =
      if ∃ c ∈ s.tracker.contexts, c.slot = i then (s.slot i).flag .headSilent else s.slot i := by
  rw [fallSilent_open open_, raise_slot]
  exact flagBound_slot _ _ i

/-- A head that falls silent with a context open changes its port, the bound records and the notices (R55). -/
theorem fallSilent_open_eq {s : State} (open_ : s.tracker.contexts ≠ []) (p : Fin Config.heads) : s.fallSilent p =
    { s with
      slots := (s.fallSilent p).slots
      heads := (s.setHead p { s.head p with state := .silent, silenceTimer := .stopped }).heads
      notices := (s.raise .headSilent (.head (headNumber p))).notices } := by
  rw [fallSilent_open open_, flagBound_eq]
  rfl

/-- Settles O30: the end of each kind of run, the runs that are no report, and the silence timer. -/
theorem runsAndSilenceAreCounted : Obligations.RunsAndSilenceAreCounted := by
  refine ⟨fun s p => ?_, fun s p => ⟨fun apart => ?_, fun running quiet => ?_, fun running open_ => ?_⟩⟩
  · have count := octetCount_eq (s.head p).settings.form
    refine ⟨fun line => ⟨fun octets => ?_, ?_⟩, fun line => ?_, fun _ _ line => ?_, fun _ _ line => ?_, fun line => ?_,
      fun octets some_octet line => ⟨fun disabled => ?_, fun enabled short => ?_, fun enabled reached bad => ?_,
        fun enabled beyond good sum => ?_⟩⟩
    · exact congrArg Host.Outcome.next (octetsIn_still (octetIn_ignoring line) _)
    · exact congrArg Host.Outcome.next (lineGap_ignoring line)
    · exact congrArg Host.Outcome.next (lineGap_idle line)
    · exact congrArg Host.Outcome.next (lineGap_gathering line)
    · exact congrArg Host.Outcome.next (lineGap_spent line)
    · exact congrArg Host.Outcome.next (lineGap_stray line)
    · exact stray_counted line disabled some_octet
    · exact corrupt_short line enabled some_octet (count ▸ short)
    · exact corrupt_bad line enabled count reached bad
    · exact corrupt_continued line enabled count beyond good sum
  · rw [silenceTimeout_eq, if_neg apart]
  · rw [silenceTimeout_eq, if_pos running, fallSilent_quiet quiet]
  · refine ⟨s.fallSilent p, by rw [silenceTimeout_eq, if_pos running], ?_⟩
    have whole := fallSilent_open_eq open_ p
    have heads (k : Fin Config.heads) : (s.fallSilent p).head k =
        (s.setHead p { s.head p with state := .silent, silenceTimer := .stopped }).head k := by
      rw [whole]
      rfl
    refine ⟨?_, fun k other => ?_, fun i bound => ?_, fun i away => ?_, ?_, ?_⟩
    · rw [heads, setHead_head_same]
    · rw [heads, setHead_head_other _ _ _ _ other.symm]
    · rw [fallSilent_open_slot open_, if_pos bound, Record.flag, headSilent_mask]
    · rw [fallSilent_open_slot open_, if_neg fun ⟨c, mem, bound⟩ => away c mem bound]
    · rw [whole]
      rfl
    · rw [whole]

end Sys2Proof.Proofs

/-! SUPPORT. The shot engine: the queue it serves next, and what becomes of the report it takes. -/

namespace Sys2Proof.Proofs

open Sys2Proof.Machine Sys2Proof.Laws

/-! ## The queue served next -/

/-- A search through the numbers below `n` in order finds the first that passes. -/
theorem find_finRange {n : Nat} {passes : Fin n → Bool} {i : Fin n} (found : passes i = true)
    (earlier : ∀ j < i, passes j = false) : (List.finRange n).find? passes = some i := by
  rw [List.find?_eq_some_iff_getElem]
  refine ⟨found, i.val, by simp, by simp, fun j below => ?_⟩
  simpa using earlier ⟨j, by omega⟩ below

theorem nextHead_none {s : State} (empty : ∀ p, (s.head p).queue = []) : s.nextHead = none :=
  List.find?_eq_none.mpr fun p _ => by simp [empty p]

/-- The heads in the order that follows the pointer: a head's place in it, and the head at a place (R61). -/
theorem head_at_place : ∀ pointer p : Fin Config.heads, pointer + 1 + (p - pointer - 1) = p := by decide

theorem place_of_head : ∀ pointer k : Fin Config.heads, pointer + 1 + k - pointer - 1 = k := by decide

/-- The first non-empty queue after the pointer is served next (R61). -/
theorem nextHead_first {s : State} {p : Fin Config.heads} (waits : (s.head p).queue ≠ [])
    (earlier : ∀ k : Fin Config.heads, k - s.pointer - 1 < p - s.pointer - 1 → (s.head k).queue = []) :
    s.nextHead = some p := by
  have first : (List.finRange Config.heads).find?
      ((fun h => !(s.head h).queue.isEmpty) ∘ fun k => s.pointer + 1 + k) = some (p - s.pointer - 1) := by
    refine find_finRange ?_ fun k before => ?_
    · simp [waits]
    · simp [earlier (s.pointer + 1 + k) (by rwa [place_of_head])]
  rw [State.nextHead, List.find?_map, first, Option.map_some, head_at_place]

/-! ## The service of one report -/

section Service

variable {s : State} {p : Fin Config.heads} {rep : Report} {rest : List Report}

theorem shotService_empty (empty : ∀ p, (s.head p).queue = []) : s.shotService = s := by
  rw [State.shotService, nextHead_none empty]

theorem shotService_unplaced (next : s.nextHead = some p) (queue : (s.head p).queue = rep :: rest)
    (stamp : rep.stamp = .unplaced) : s.shotService = (s.takeReport p rest).countHead p .unplaced := by
  simp only [State.shotService, next, queue, stamp]

theorem shotService_placed (next : s.nextHead = some p) (queue : (s.head p).queue = rep :: rest)
    {i : Fin Config.slots} {generation : Byte} {station angle : Nat} {sector : Fin Config.sectors}
    (stamp : rep.stamp = .placed i generation station angle sector) :
    s.shotService = (s.takeReport p rest).place p rep i generation station sector := by
  simp only [State.shotService, next, queue, stamp]

/-- The taking of a report: the queue, its ready line and the pointer follow (R53, R61). -/
theorem takeReport_eq (s : State) (p : Fin Config.heads) (rest : List Report) : s.takeReport p rest =
    { s.setHead p { s.head p with
        queue := rest
        ready := decide ((s.head p).state ≠ .disabled ∧
          ((s.head p).settings.mode = .drop ∨ rest.length < (s.head p).settings.depth)) } with pointer := p } := by
  rw [State.takeReport, headSettle_eq]

end Service

/-! ## The steps of a placed report -/

/-- A record serves a stamp while it is under way in the stamp's generation; otherwise the report is an orphan (R63). -/
theorem orphans_iff (r : Record) (generation : Byte) : r.orphans generation = true ↔
    ¬((r.state = .measuring ∨ r.state = .finishing) ∧ r.generation = generation) := by
  simp only [Record.orphans, Record.underWay, Bool.or_eq_true, Bool.not_eq_true', decide_eq_false_iff_not,
    decide_eq_true_eq, not_and_or]

section Placed

variable {s : State} {p : Fin Config.heads} {rep : Report} {i : Fin Config.slots} {generation : Byte} {station : Nat}
  {sector : Fin Config.sectors}

theorem place_orphan (orphan : (s.slot i).orphans generation = true) :
    s.place p rep i generation station sector = s.countHead p .orphan := if_pos orphan

theorem place_beyond (serves : ¬(s.slot i).orphans generation = true) (beyond : 1024 ≤ station) :
    s.place p rep i generation station sector =
      (s.countHead p .beyond).setSlot i { s.slot i with history := (s.slot i).history ||| 0x004#10 } := by
  rw [← truncated_mask]
  exact (if_neg serves).trans (if_pos beyond)

theorem place_strip (serves : ¬(s.slot i).orphans generation = true) (inside : station < 1024) {st : Strip}
    (is : (s.slot i).strips[station]? = some st) : s.place p rep i generation station sector =
      if st.state = .closed then (s.countHead p .late).modSlot i fun r => { r with late := countUp r.late }
      else s.classify p rep i station sector := by
  refine ((if_neg serves).trans (if_neg (Nat.not_le.mpr inside))).trans ?_
  rw [is]

/-- A report beyond the record's strips asks for those that are missing, and is classified when all are found (R66). -/
theorem place_met (serves : ¬(s.slot i).orphans generation = true) (inside : station < 1024)
    (missing : (s.slot i).strips.length ≤ station) {u : State}
    (met : State.allocStrips (station + 1 - (s.slot i).strips.length) i s = (u, true)) :
    s.place p rep i generation station sector = u.classify p rep i station sector := by
  refine ((if_neg serves).trans (if_neg (Nat.not_le.mpr inside))).trans ?_
  rw [List.getElem?_eq_none missing, met]
  rfl

/-- A report whose missing strips are not all found is counted POOL (R66). -/
theorem place_unmet (serves : ¬(s.slot i).orphans generation = true) (inside : station < 1024)
    (missing : (s.slot i).strips.length ≤ station) {u : State}
    (unmet : State.allocStrips (station + 1 - (s.slot i).strips.length) i s = (u, false)) :
    s.place p rep i generation station sector = (u.countHead p .pool).poolShort i := by
  refine ((if_neg serves).trans (if_neg (Nat.not_le.mpr inside))).trans ?_
  rw [List.getElem?_eq_none missing, unmet]
  rfl

end Placed

/-- POOL_SHORT, with POOL_EXHAUSTED for the record when it was clear (R66). -/
theorem poolShort_flags (s : State) (i : Fin Config.slots) : s.poolShort i =
    if (s.slot i).history.getLsbD 3 = true then
      s.setSlot i { s.slot i with history := (s.slot i).history ||| 0x008#10 }
    else (s.setSlot i { s.slot i with history := (s.slot i).history ||| 0x008#10 }).raise .poolExhausted
      (s.subjectOf i) := by
  rw [← poolShort_mask]
  rfl

/-- What a failed request leaves when it took the last strips of the pool and evicted nothing (R66, R86). -/
theorem poolShort_drained (s : State) (p : Fin Config.heads) (i : Fin Config.slots) :
    ((strippedOf s.freeStrips i s).countHead p .pool).poolShort i =
      let short := State.setSlot { s.countHead p .pool with freeStrips := 0 } i { s.slot i with
        history := (s.slot i).history ||| 0x008#10
        strips := (s.slot i).strips ++ List.replicate s.freeStrips newStrip }
      if (s.slot i).history.getLsbD 3 = true then short else short.raise .poolExhausted (s.subjectOf i) := by
  have drained : (strippedOf s.freeStrips i s).countHead p .pool =
      State.setSlot { s.countHead p .pool with freeStrips := 0 } i { s.slot i with
        strips := (s.slot i).strips ++ List.replicate s.freeStrips newStrip } := by
    rw [strippedOf, Nat.sub_self]
    rfl
  rw [poolShort_flags, drained, setSlot_slot_same, setSlot_setSlot]
  exact if_congr Iff.rfl rfl (congrArg (State.raise _ .poolExhausted)
    (subjectOf_congr (by rw [setSlot_slot_same]) (by rw [setSlot_slot_same])))

/-- Settles O31: the empty queues, then each fate of the report taken. -/
theorem shotServiceTakesReport : Obligations.ShotServiceTakesReport := by
  refine fun s => ⟨fun empty => congrArg Host.Outcome.next (shotService_empty empty), fun p rep rest queue earlier => ?_⟩
  intro taken
  have next : s.nextHead = some p := nextHead_first (by simp [queue]) earlier
  have takes : s.takeReport p rest = taken := takeReport_eq s p rest
  refine ⟨fun stamp => ?_, fun i generation station angle sector stamp => ?_⟩
  · rw [← takes]
    exact congrArg Host.Outcome.next (shotService_unplaced next queue stamp)
  intro r serves
  have placed {t : State} (fate : taken.place p rep i generation station sector = t) : exec .shotService s = .next t := by
    rw [← fate, ← takes]
    exact congrArg Host.Outcome.next (shotService_placed next queue stamp)
  have unorphaned (is : serves) : ¬(taken.slot i).orphans generation = true :=
    fun orphan => (orphans_iff r generation).mp orphan is
  refine ⟨fun orphan => ?_, fun is beyond => ?_, fun st is inside strip closed => ?_, fun st is inside strip opened => ?_,
    fun is inside missing enough => ?_, fun is inside short stuck => ?_, fun is inside missing =>
      ⟨fun met => ?_, fun unmet => ?_⟩⟩
  · exact placed (place_orphan ((orphans_iff r generation).mpr orphan))
  · exact placed (place_beyond (unorphaned is) beyond)
  · exact placed ((place_strip (unorphaned is) inside strip).trans (if_pos closed))
  · exact placed ((place_strip (unorphaned is) inside strip).trans (if_neg (by simp [opened])))
  · exact placed (place_met (unorphaned is) inside missing (allocStrips_enough enough))
  · have missing : r.strips.length ≤ station := by omega
    refine placed ((place_unmet (unorphaned is) inside missing (allocStrips_short short stuck)).trans ?_)
    exact poolShort_drained taken p i
  · exact placed (place_met (unorphaned is) inside missing (Prod.ext rfl met))
  · refine placed ((place_unmet (unorphaned is) inside missing (Prod.ext rfl unmet)).trans ?_)
    exact poolShort_flags _ i

end Sys2Proof.Proofs

/-! SUPPORT. From echo to thickness: the class of a shot, the temperature and the thickness taken, and where the shot is counted. -/

namespace Sys2Proof.Proofs

open Sys2Proof.Machine Sys2Proof.Laws

/-! ## The class of a shot -/

theorem read_of_defined {entry : Material} {m : MaterialFields} (defined : entry.fields = some m) : entry.read = m := by
  rw [Material.read, defined, Option.getD_some]

section Echo

variable {m : MaterialFields} {rep : Report}

theorem class_noEcho (lost : rep.interval = 0 ∨ rep.amplitude < m.echoFloor) : m.classify rep = .noEcho := if_pos lost

theorem class_saturated (echo : ¬(rep.interval = 0 ∨ rep.amplitude < m.echoFloor)) (full : rep.amplitude = 255) :
    m.classify rep = .saturated := (if_neg echo).trans (if_pos full)

theorem class_echo (echo : ¬(rep.interval = 0 ∨ rep.amplitude < m.echoFloor)) (short : rep.amplitude ≠ 255) :
    m.classify rep = if rep.amplitude < m.weak then .weak else .good := (if_neg echo).trans (if_neg short)

/-- A WEAK shot and a GOOD one are counted as such, and neither is rejected at once (R75, R76). -/
theorem weak_or_good (faint : Prop) [Decidable faint] :
    let cls := if faint then ShotClass.weak else .good
    (cls = .weak ↔ faint) ∧ cls.counter = (if faint then .weak else .good) ∧ ¬(cls = .noEcho ∨ cls = .saturated) := by
  by_cases is : faint <;> simp [is, ShotClass.counter]

end Echo

/-! ## Temperature and thickness -/

theorem clamped_mask : HistoryFlag.clamped.mask = 0x010#10 := by decide

/-- A FULL report's temperature comes first, then the record's last one, then the entry's reference (R77). -/
theorem chosenTemp_eq (m : MaterialFields) (rep : Report) (last : Option Nat) :
    m.chosenTemp rep last = (rep.temperature.or last).getD m.tref := by
  unfold MaterialFields.chosenTemp
  cases rep.temperature <;> rfl

/-- A replaced temperature sets CLAMPED, and a FULL report's one becomes the last temperature as clamped (R77, R78). -/
theorem tempTaken_heated (r : Record) (m : MaterialFields) (rep : Report) : r.tempTaken m rep =
    let chosen := (rep.temperature.or r.lastTemp).getD m.tref
    { r with
      history := if m.clamp chosen = chosen then r.history else r.history ||| 0x010#10
      lastTemp := if rep.temperature.isSome then some (m.clamp chosen) else r.lastTemp } := by
  rw [← chosenTemp_eq, ← clamped_mask]
  unfold Record.tempTaken
  dsimp only
  by_cases kept : m.clamp (m.chosenTemp rep r.lastTemp) = m.chosenTemp rep r.lastTemp
  · rw [if_pos kept, if_pos kept]
    cases rep.temperature <;> rfl
  · rw [if_neg kept, if_neg kept]
    cases rep.temperature <;> rfl

theorem tempTaken_shell (r : Record) (m : MaterialFields) (rep : Report) : (r.tempTaken m rep).shell = r.shell := by
  rw [tempTaken_eq]

/-- The thickness, truncated at each division (R79, R80). -/
theorem converted_eq (r : Record) (m : MaterialFields) (rep : Report) : r.converted m rep =
    (m.v0 - m.k * m.clamp ((rep.temperature.or r.lastTemp).getD m.tref) / 100) * rep.interval / 2000 := by
  rw [← chosenTemp_eq]
  rfl

/-- A thickness lies outside the plausibility window when it is below half or above three halves of the nominal wall (R81). -/
theorem outsideWindow_iff (nominal thickness : Nat) : (!inWindow nominal thickness) = true ↔
    thickness < nominal / 2 ∨ nominal * 3 / 2 < thickness := by
  rw [Bool.not_eq_true', inWindow, within_eq_false]

/-! ## From the class to the record -/

section Shot

variable (s : State) (p : Fin Config.heads) (rep : Report) (i : Fin Config.slots) (station : Nat)
  (sector : Fin Config.sectors)

theorem reject_setSlot (r : Record) :
    (s.setSlot i r).reject i station sector = s.setSlot i (r.rejectShot station sector) := by
  rw [State.reject, State.modSlot, setSlot_slot_same, setSlot_setSlot]

theorem accept_setSlot (r : Record) (thickness : Nat) : (s.setSlot i r).accept i station sector thickness =
    s.setSlot i (r.acceptShot (s.limit r.shell.limitSet) station sector thickness) := by
  rw [State.accept, State.modSlot, setSlot_slot_same, setSlot_limit, setSlot_setSlot]

/-- The counting at a head and the change of a record do not meet. -/
theorem setSlot_countHead (c : HeadCounter) (r : Record) :
    (s.setSlot i r).countHead p c = (s.countHead p c).setSlot i r := rfl

/-- The three ends of a WEAK or GOOD shot: outside the window, WEAK where such are not taken, and accepted (R81 to R84). -/
theorem convert_eq {m : MaterialFields} (defined : (s.material (s.slot i).shell.grade).fields = some m) (cls : ShotClass) :
    let r := s.slot i
    let l := s.limit r.shell.limitSet
    let thickness := r.converted m rep
    let heated := r.tempTaken m rep
    s.convert p rep i station sector cls =
      if thickness < r.shell.nominal / 2 ∨ r.shell.nominal * 3 / 2 < thickness then
        (s.countHead p .window).setSlot i (heated.rejectShot station sector)
      else if cls = .weak ∧ l.controls.getLsbD 1 = false then s.setSlot i (heated.rejectShot station sector)
      else s.setSlot i (heated.acceptShot l station sector thickness) := by
  intro r l thickness heated
  have weak : (cls = .weak ∧ (!l.on .acceptWeak) = true) ↔ cls = .weak ∧ l.controls.getLsbD 1 = false :=
    and_congr_right fun _ => iff_of_eq (Bool.not_eq_true' _)
  have unlike : ((s.setSlot i heated).countHead p .window).reject i station sector =
      (s.countHead p .window).setSlot i (heated.rejectShot station sector) := by
    rw [setSlot_countHead, reject_setSlot]
  have taken : (s.setSlot i heated).accept i station sector thickness =
      s.setSlot i (heated.acceptShot l station sector thickness) := by
    rw [accept_setSlot, tempTaken_shell]
  unfold State.convert
  dsimp only
  rw [read_of_defined defined]
  exact if_congr (outsideWindow_iff _ _) unlike (if_congr weak (reject_setSlot ..) taken)

/-- A shot without an echo, or with a full one, is counted and rejected (R75, R76). -/
theorem classify_rejects {m : MaterialFields} (defined : (s.material (s.slot i).shell.grade).fields = some m)
    {cls : ShotClass} (is : m.classify rep = cls) (bad : cls = .noEcho ∨ cls = .saturated) :
    s.classify p rep i station sector = (s.countHead p cls.counter).setSlot i ((s.slot i).rejectShot station sector) := by
  unfold State.classify
  rw [read_of_defined defined, is]
  exact if_pos bad

/-- Any other shot is counted and converted (R76). -/
theorem classify_converts {m : MaterialFields} (defined : (s.material (s.slot i).shell.grade).fields = some m)
    {cls : ShotClass} (is : m.classify rep = cls) (fair : ¬(cls = .noEcho ∨ cls = .saturated)) :
    s.classify p rep i station sector = (s.countHead p cls.counter).convert p rep i station sector cls := by
  unfold State.classify
  rw [read_of_defined defined, is]
  exact if_neg fair

end Shot

/-- Settles O32: the two classes that are rejected at once, then a WEAK and a GOOD shot through conversion. -/
theorem shotsClassifyAndConvert : Obligations.ShotsClassifyAndConvert := by
  intro s p rep i station sector m defined r rejected
  refine ⟨fun lost => ?_, fun heard loud full => ?_, fun heard loud short => ?_⟩
  · exact classify_rejects s p rep i station sector defined (class_noEcho lost) (.inl rfl)
  · have echo : ¬(rep.interval = 0 ∨ rep.amplitude < m.echoFloor) := by omega
    exact classify_rejects s p rep i station sector defined (class_saturated echo full) (.inr rfl)
  · have echo : ¬(rep.interval = 0 ∨ rep.amplitude < m.echoFloor) := by omega
    intro weak seen chosen used thickness heated l
    have heats : r.tempTaken m rep = heated := tempTaken_heated r m rep
    have converts : r.converted m rep = thickness := converted_eq r m rep
    have accepts : heated.acceptShot l station sector thickness =
        { heated.modCell station sector (fun c => c.accept l r.shell.nominal thickness) with
          accepted := min 65535 (r.accepted + 1) } := rfl
    obtain ⟨is_weak, counter, fair⟩ := weak_or_good weak
    rw [classify_converts s p rep i station sector defined (class_echo echo short) fair, counter, ← accepts, ← heats,
      ← converts]
    exact (convert_eq seen p rep i station sector defined _).trans
      (if_congr Iff.rfl rfl (if_congr (and_congr_left' is_weak) rfl rfl))

end Sys2Proof.Proofs

/-! SUPPORT. The material table's commands: MATERIAL WRITE, MATERIAL CLEAR and MATERIAL READ. -/

namespace Sys2Proof.Proofs

open Sys2Proof.Machine Sys2Proof.Laws

/-! ## MATERIAL WRITE, MATERIAL CLEAR and MATERIAL READ -/

/-- The first of the eight material values out of its range; the grade code is never (R71). -/
theorem materialChecks_eq (f : MaterialValues) : firstBad 1 (MaterialValues.checks f) =
    if f.v0.toNat < 4000 ∨ 7000 < f.v0.toNat then some 2
    else if 200 < f.k.toNat then some 3
    else if 1400 < f.tmin.toNat then some 4
    else if f.tref.toNat < f.tmin.toNat ∨ 1400 < f.tref.toNat then some 5
    else if f.tmax.toNat < f.tref.toNat ∨ 1400 < f.tmax.toNat then some 6
    else if 254 < f.echoFloor.toNat then some 7
    else if f.weak.toNat < f.echoFloor.toNat ∨ 254 < f.weak.toNat then some 8 else none := by
  rw [MaterialValues.checks, firstBad_true rfl]
  simp only [firstBad_within, Nat.not_lt_zero, false_or]
  rfl

section Unnamed

variable {n : Byte} (high : 31 < n.toNat) (s : State)
include high

theorem materialWrite_unnamed (f : MaterialValues) : materialWrite n f s = (s, .refuse .range) := by
  rw [materialWrite, entryOf_none.mpr high]

theorem materialClear_unnamed : materialClear n s = (s, .refuse .range) := by
  rw [materialClear, entryOf_none.mpr high]

theorem materialRead_unnamed : materialRead n s = .refuse .range := by
  rw [materialRead, entryOf_none.mpr high]

end Unnamed

section Named

variable {n : Byte} {g : Fin Config.materials} (names : n.toNat = g.val) (s : State)
include names

theorem materialWrite_inUse (used : 0 < (s.material g).refs) (f : MaterialValues) :
    materialWrite n f s = (s, .refuse .inUse 0 (s.material g).octets) := by
  rw [materialWrite, entryOf_some.mpr names]
  exact if_pos used

theorem materialWrite_bad (unused : ¬0 < (s.material g).refs) {f : MaterialValues} {field : Nat}
    (bad : firstBad 1 (MaterialValues.checks f) = some field) :
    materialWrite n f s = (s, .refuse .range field (s.material g).octets) := by
  simp only [materialWrite, entryOf_some.mpr names, if_neg unused, bad]

theorem materialWrite_good (unused : ¬0 < (s.material g).refs) {f : MaterialValues}
    (good : firstBad 1 (MaterialValues.checks f) = none) : materialWrite n f s =
      (s.setMaterial g { s.material g with fields := some (MaterialValues.fields f) },
        .done ({ s.material g with fields := some (MaterialValues.fields f) } : Material).octets) := by
  simp only [materialWrite, entryOf_some.mpr names, if_neg unused, good]

theorem materialClear_inUse (used : 0 < (s.material g).refs) : materialClear n s = (s, .refuse .inUse) := by
  rw [materialClear, entryOf_some.mpr names]
  exact if_pos used

theorem materialClear_unused (unused : ¬0 < (s.material g).refs) :
    materialClear n s = (s.setMaterial g { s.material g with fields := none }, .done []) := by
  rw [materialClear, entryOf_some.mpr names]
  exact if_neg unused

theorem materialRead_named : materialRead n s = .done (s.material g).octets := by
  rw [materialRead, entryOf_some.mpr names]

end Named

/-- Settles O38: an entry number that names no entry, then each command on the entry named. -/
theorem materialCommandsAct : Obligations.MaterialCommandsAct := by
  intro s h n body
  refine ⟨fun high => ⟨fun f ok => ?_, fun ok => ?_, fun ok => ?_⟩, fun g names => ?_⟩
  · exact answering_refused ok (materialWrite_unnamed high _ f)
  · exact answering_refused ok (materialClear_unnamed high _)
  · exact answering_refused ok (congrArg (Prod.mk s.frameIn) (materialRead_unnamed high _))
  intro m
  refine ⟨fun f ok => ?_, fun ok => ?_, fun ok => ?_⟩
  · have checks := materialChecks_eq f
    show answering h rowMaterialWrite (materialWrite n f) s = _
    dsimp only
    by_cases used : 0 < m.refs
    · rw [if_pos used]
      exact answering_ran ok (materialWrite_inUse names s.frameIn used f) rfl
    have refused (field : Nat) (bad : firstBad 1 (MaterialValues.checks f) = some field) :=
      answering_ran ok (materialWrite_bad names s.frameIn used bad) rfl
    rw [if_neg used]
    split_ifs at checks ⊢
    iterate 7 exact refused _ checks
    exact answering_ran ok (materialWrite_good names s.frameIn used checks) rfl
  · show answering h rowMaterialClear (materialClear n) s = _
    split_ifs with used
    · exact answering_ran ok (materialClear_inUse names s.frameIn used) rfl
    · exact answering_ran ok (materialClear_unused names s.frameIn used) rfl
  · exact answering_ran ok (run := reading (materialRead n))
      (congrArg (Prod.mk s.frameIn) (materialRead_named names s.frameIn)) rfl

end Sys2Proof.Proofs

/-! SUPPORT. The cell update, the close of a strip with its judgement, and the worst deviation. -/

namespace Sys2Proof.Proofs

open Sys2Proof.Machine Sys2Proof.Laws

/-! ## The cell update -/

/-- A cell after an accepted shot, before it may settle: opened (R95), counted (R96), with the extremes and the worst deviation (R97). -/
def struck (c : Cell) (l : LimitSet) (nominal thickness : Nat) : Cell :=
  let deviation : Int := (thickness : Int) - (nominal : Int)
  { c with
    state := if c.state = .empty then .opened else c.state
    need := if c.state = .empty then l.need else c.need
    accepted := if c.accepted < 255 then c.accepted + 1 else c.accepted
    sum := if c.accepted < 255 then c.sum + thickness else c.sum
    min := if c.state = .empty then thickness else min c.min thickness
    max := if c.state = .empty then thickness else max c.max thickness
    worst := if c.state = .empty then deviation
      else if c.worst.natAbs < deviation.natAbs then deviation else c.worst }

theorem counted_eq (c : Cell) (thickness : Nat) : c.counted thickness = { c with
    accepted := if c.accepted < 255 then c.accepted + 1 else c.accepted
    sum := if c.accepted < 255 then c.sum + thickness else c.sum } := by
  unfold Cell.counted
  split <;> rfl

theorem accept_eq_settleBy (c : Cell) (l : LimitSet) (nominal thickness : Nat) :
    c.accept l nominal thickness = (struck c l nominal thickness).settleBy l nominal := by
  unfold Cell.accept struck
  rw [counted_eq]
  by_cases empty : c.state = .empty
  · simp [Cell.openBy, Cell.extremes, empty]
  · simp [Cell.openBy, Cell.extremes, empty, Nat.min_def, Nat.max_def]

/-- Settling changes the state, the need and the outcome alone. -/
theorem settleBy_eq (c : Cell) (l : LimitSet) (nominal : Nat) : c.settleBy l nominal = { c with
    state := (c.settleBy l nominal).state
    need := (c.settleBy l nominal).need
    outcome := (c.settleBy l nominal).outcome } := by
  unfold Cell.settleBy
  split
  · split <;> rfl
  · rfl
  · rfl

/-- A judgement reads a cell's extremes, sum and count alone (R118, R119). -/
theorem judgeCell_settleBy (c : Cell) (l : LimitSet) (nominal : Nat) :
    l.judgeCell nominal (c.settleBy l nominal) = l.judgeCell nominal c := by
  rw [settleBy_eq]
  rfl

theorem settleBy_last {c : Cell} (opened : c.state = .opened) (last : c.need ≤ 1) (l : LimitSet) (nominal : Nat) :
    c.settleBy l nominal = { c with need := 0, state := .settled, outcome := l.judgeCell nominal c } := by
  unfold Cell.settleBy
  rw [opened]
  exact if_pos last

theorem settleBy_counts {c : Cell} (opened : c.state = .opened) (more : 1 < c.need) (l : LimitSet) (nominal : Nat) :
    c.settleBy l nominal = { c with need := c.need - 1 } := by
  unfold Cell.settleBy
  rw [opened]
  exact if_neg (Nat.not_le.mpr more)

theorem settleBy_settled {c : Cell} (settled : c.state = .settled) (l : LimitSet) (nominal : Nat) :
    c.settleBy l nominal = { c with outcome := l.judgeCell nominal c } := by
  simp only [Cell.settleBy, settled, LimitSet.giveOutcome, if_true]

/-- Settles O33: the shot strikes the cell, and the struck cell settles or not by its state and need. -/
theorem cellsTakeAcceptedShots : Obligations.CellsTakeAcceptedShots := by
  intro c l nominal thickness t deviation need
  have taken : t = (struck c l nominal thickness).settleBy l nominal := accept_eq_settleBy c l nominal thickness
  have judged : l.judgeCell nominal t = l.judgeCell nominal (struck c l nominal thickness) := by
    rw [taken, judgeCell_settleBy]
  rw [judged, taken]
  refine ⟨?_, ?_, fun short => ?_, fun full => ?_, fun empty => ?_, fun used => ?_, fun unsettled => ?_,
    fun settled => ?_⟩
  · rw [settleBy_eq]; rfl
  · rw [settleBy_eq]; rfl
  · rw [settleBy_eq]
    exact ⟨if_pos short, if_pos short⟩
  · rw [settleBy_eq]
    exact ⟨if_neg (Nat.not_lt.mpr full), if_neg (Nat.not_lt.mpr full)⟩
  · rw [settleBy_eq]
    exact ⟨if_pos empty, if_pos empty, if_pos empty⟩
  · rw [settleBy_eq]
    exact ⟨if_neg used, if_neg used, if_neg used⟩
  · have opened : (struck c l nominal thickness).state = .opened := by
      show (if c.state = .empty then _ else c.state) = _
      split_ifs with empty
      · rfl
      · exact unsettled.resolve_left empty
    refine ⟨fun last => ?_, fun more => ?_⟩
    · rw [settleBy_last opened last]
      exact ⟨rfl, rfl, rfl⟩
    · rw [settleBy_counts opened more]
      exact ⟨opened, rfl, rfl⟩
  · have used : c.state ≠ .empty := by simp [settled]
    have still : (struck c l nominal thickness).state = .settled := (if_neg used).trans settled
    rw [settleBy_settled still]
    exact ⟨still, if_neg used, rfl⟩

/-! ## The cells of a closed strip -/

theorem mapCells_toList (st : Strip) (f : Cell → Cell) : (st.mapCells f).cells.toList = st.cells.toList.map f := by
  refine List.ext_getElem (by simp) fun k inside _ => ?_
  simp [Strip.mapCells]

theorem mapCells_cell (st : Strip) (f : Cell → Cell) (j : Fin Config.sectors) :
    (st.mapCells f).cells[j] = f st.cells[j] := by
  simp [Strip.mapCells]

/-- The close of a cell (R101 to R103). -/
theorem cellClose_eq (c : Cell) (l : LimitSet) (nominal : Nat) : c.close l nominal = { c with
    state := match c.state with
      | .empty => .gap
      | .opened => .sparse
      | x => x
    noisy := decide (c.accepted < c.rejected)
    outcome := if c.state = .settled then l.judgeCell nominal c else .none } := by
  have settled : (c.close l nominal).state = .settled ↔ c.state = .settled := by
    cases state : c.state <;> simp [Cell.close, LimitSet.giveOutcome, state]
  have judged : (c.close l nominal).outcome =
    if (c.close l nominal).state = .settled then l.judgeCell nominal c else .none := rfl
  rw [if_congr settled rfl rfl] at judged
  rw [← judged]
  rfl

/-- The SETTLED cells and their means are those from before the close. -/
theorem settledMeans_close (st : Strip) (l : LimitSet) (nominal : Nat) :
    (st.mapCells fun c => c.close l nominal).settledMeans = st.settledMeans := by
  have settled (c : Cell) : decide ((c.close l nominal).state = .settled) = decide (c.state = .settled) := by
    cases state : c.state <;> simp [Cell.close, LimitSet.giveOutcome, state]
  rw [Strip.settledMeans, mapCells_toList, List.filter_map, List.map_map]
  simp only [Function.comp_def, settled]
  rfl

/-! ## The eccentricity -/

theorem eccAtClose_absent {st : Strip} {l : LimitSet}
    (few : st.settledMeans.length < l.eccCells ∨ st.settledMeans = []) : st.eccAtClose l = none := by
  unfold Strip.eccAtClose
  split
  · rfl
  · rename_i m ms means
    rw [means] at few
    exact if_neg (Nat.not_le.mpr (few.resolve_right (List.cons_ne_nil m ms)))

theorem eccAtClose_present {st : Strip} {l : LimitSet} {greatest least : Nat} (greatest_mem : greatest ∈ st.settledMeans)
    (least_mem : least ∈ st.settledMeans) (between : ∀ v ∈ st.settledMeans, least ≤ v ∧ v ≤ greatest)
    (enough : l.eccCells ≤ st.settledMeans.length) :
    st.eccAtClose l = some ((greatest - least) * 1000 / (greatest + least)) := by
  have max : st.settledMeans.max? = some greatest :=
    List.max?_eq_some_iff.mpr ⟨greatest_mem, fun v mem => (between v mem).2⟩
  have min : st.settledMeans.min? = some least :=
    List.min?_eq_some_iff.mpr ⟨least_mem, fun v mem => (between v mem).1⟩
  unfold Strip.eccAtClose
  cases means : st.settledMeans with
  | nil => simp [means] at greatest_mem
  | cons m ms =>
    rw [means] at max min enough
    rw [List.max?_cons', Option.some.injEq] at max
    rw [List.min?_cons', Option.some.injEq] at min
    subst max min
    exact if_pos enough

/-! ## The closed strip -/

theorem stripClose_closed (st : Strip) (l : LimitSet) (nominal : Nat) :
    ∃ kinds ecc cells, st.close l nominal = { state := .closed, kinds, ecc, cells } := ⟨_, _, _, rfl⟩

theorem stripClose_cell (st : Strip) (l : LimitSet) (nominal : Nat) (j : Fin Config.sectors) :
    (st.close l nominal).cells[j] = st.cells[j].close l nominal := by
  have cells : (st.close l nominal).cells = (st.mapCells fun c => c.close l nominal).cells := rfl
  rw [cells, mapCells_cell]

theorem stripClose_ecc (st : Strip) (l : LimitSet) (nominal : Nat) :
    (st.close l nominal).ecc = (st.mapCells fun c => c.close l nominal).eccAtClose l := by
  simp only [Strip.close]

theorem stripClose_absent {st : Strip} {l : LimitSet} (nominal : Nat)
    (few : st.settledMeans.length < l.eccCells ∨ st.settledMeans = []) : (st.close l nominal).ecc = none := by
  rw [← settledMeans_close st l nominal] at few
  rw [stripClose_ecc, eccAtClose_absent few]

theorem stripClose_present {st : Strip} {l : LimitSet} (nominal : Nat) {greatest least : Nat}
    (greatest_mem : greatest ∈ st.settledMeans) (least_mem : least ∈ st.settledMeans)
    (between : ∀ v ∈ st.settledMeans, least ≤ v ∧ v ≤ greatest) (enough : l.eccCells ≤ st.settledMeans.length) :
    (st.close l nominal).ecc = some ((greatest - least) * 1000 / (greatest + least)) := by
  rw [← settledMeans_close st l nominal] at greatest_mem least_mem between enough
  rw [stripClose_ecc, eccAtClose_present greatest_mem least_mem between enough]

/-! ## The kinds and derived flags of a judged strip -/

theorem getLsbD_maskIf {w : Nat} (b : Bool) (m : BitVec w) (k : Nat) :
    (maskIf b m).getLsbD k = (b && m.getLsbD k) := by
  cases b <;> simp [maskIf]

theorem kind_bit (kind : Kind) {k : Nat} (inside : k < 5) : kind.mask.getLsbD k = decide (k = kind.code) := by
  simp [Kind.mask, inside]

theorem judgedKinds_bit (l : LimitSet) (st : Strip) {k : Nat} (inside : k < 5) : (l.judgedKinds st).getLsbD k =
    ((st.anyCell Cell.isThin && decide (k = 0)) || (st.anyCell Cell.isThick && decide (k = 1)) ||
      (l.eccentric st.ecc && decide (k = 2)) || (l.gapped st && decide (k = 3))) := by
  simp only [LimitSet.judgedKinds, BitVec.getLsbD_or, getLsbD_maskIf, kind_bit _ inside]
  rfl

theorem judgedKinds_thin (l : LimitSet) (st : Strip) : (l.judgedKinds st).getLsbD 0 = st.anyCell Cell.isThin := by
  rw [judgedKinds_bit l st (by decide)]
  simp

theorem judgedKinds_thick (l : LimitSet) (st : Strip) : (l.judgedKinds st).getLsbD 1 = st.anyCell Cell.isThick := by
  rw [judgedKinds_bit l st (by decide)]
  simp

theorem judgedKinds_gap (l : LimitSet) (st : Strip) : (l.judgedKinds st).getLsbD 3 = l.gapped st := by
  rw [judgedKinds_bit l st (by decide)]
  simp

theorem judgedKinds_crop (l : LimitSet) (st : Strip) : (l.judgedKinds st).getLsbD 4 = false := by
  rw [judgedKinds_bit l st (by decide)]
  simp

theorem eccentric_iff (l : LimitSet) (ecc : Option Nat) :
    l.eccentric ecc = true ↔ ∃ e, ecc = some e ∧ 0 < l.eccLimit ∧ l.eccLimit < e := by
  cases ecc <;> simp [LimitSet.eccentric]

theorem judgedKinds_ecc (l : LimitSet) (st : Strip) : (l.judgedKinds st).getLsbD 2 = true ↔
    ∃ e, st.ecc = some e ∧ 0 < l.eccLimit ∧ l.eccLimit < e := by
  rw [← eccentric_iff, judgedKinds_bit l st (by decide)]
  simp

theorem derivedFlags_kinds (st : Strip) {b : Nat} (low : b < 4) : st.derivedFlags.getLsbD b = st.kinds.getLsbD b := by
  have kept : ∀ b < 4, (0x0F#5).getLsbD b = true := by decide
  have other : ∀ b < 4, DerivedFlag.noisy.mask.getLsbD b = false := by decide
  rw [Strip.derivedFlags, BitVec.getLsbD_or, BitVec.getLsbD_and, getLsbD_maskIf, kept b low, other b low, Bool.and_true,
    Bool.and_false, Bool.or_false]

theorem derivedFlags_noisy (st : Strip) : st.derivedFlags.getLsbD 4 = st.anyCell Cell.noisy := by
  have dropped : (0x0F#5).getLsbD 4 = false := by decide
  have own : DerivedFlag.noisy.mask.getLsbD 4 = true := by decide
  rw [Strip.derivedFlags, BitVec.getLsbD_or, BitVec.getLsbD_and, getLsbD_maskIf, dropped, own, Bool.and_false,
    Bool.false_or, Bool.and_true]

/-! ## The worst deviation -/

/-- The worst deviation so far, after one cell more (R125). -/
def worseOf (w : Int) (c : Cell) : Int := if 0 < c.accepted ∧ w.natAbs < c.worst.natAbs then c.worst else w

theorem worst_eq_foldl (st : Strip) : st.worst = st.cells.toList.foldl worseOf 0 := rfl

/-- Cells of no greater deviation leave the worst one. -/
theorem foldl_worseOf_keeps {w : Int} {cells : List Cell}
    (least : ∀ c ∈ cells, 0 < c.accepted → c.worst.natAbs ≤ w.natAbs) : cells.foldl worseOf w = w := by
  induction cells with
  | nil => rfl
  | cons c rest ih =>
    obtain ⟨head, tail⟩ := List.forall_mem_cons.mp least
    have kept : worseOf w c = w := if_neg fun ⟨shot, worse⟩ => absurd (head shot) (Nat.not_le.mpr worse)
    rw [List.foldl_cons, kept, ih tail]

/-- Below a bound, the worst deviation stays below it while every cell does. -/
theorem foldl_worseOf_lt {w : Int} {bound : Nat} {cells : List Cell} (start : w.natAbs < bound)
    (below : ∀ c ∈ cells, 0 < c.accepted → c.worst.natAbs < bound) : (cells.foldl worseOf w).natAbs < bound := by
  induction cells generalizing w with
  | nil => exact start
  | cons c rest ih =>
    obtain ⟨head, tail⟩ := List.forall_mem_cons.mp below
    refine ih ?_ tail
    unfold worseOf
    split_ifs with worse
    · exact head worse.1
    · exact start

theorem worst_of_unshot {st : Strip} (unshot : ∀ k : Fin Config.sectors, st.cells[k].accepted = 0) : st.worst = 0 := by
  refine foldl_worseOf_keeps fun c mem shot => ?_
  obtain ⟨k, inside, rfl⟩ := Vector.mem_iff_getElem.mp (Vector.mem_toList_iff.mp mem)
  exact absurd (unshot ⟨k, inside⟩) (Nat.ne_of_gt shot)

/-- Of the cells with accepted shots the worst deviation is that of the first sector of greatest magnitude (R125). -/
theorem worst_of_first {st : Strip} {k : Fin Config.sectors} (shot : 0 < st.cells[k].accepted)
    (greatest : ∀ j : Fin Config.sectors, 0 < st.cells[j].accepted →
      st.cells[j].worst.natAbs ≤ st.cells[k].worst.natAbs)
    (first : ∀ j : Fin Config.sectors, j < k → 0 < st.cells[j].accepted →
      st.cells[j].worst.natAbs < st.cells[k].worst.natAbs) : st.worst = st.cells[k].worst := by
  have top : ∀ c ∈ st.cells.toList, 0 < c.accepted → c.worst.natAbs ≤ st.cells[k].worst.natAbs := by
    intro c mem
    obtain ⟨j, inside, rfl⟩ := Vector.mem_iff_getElem.mp (Vector.mem_toList_iff.mp mem)
    exact greatest ⟨j, inside⟩
  rcases Nat.eq_zero_or_pos st.cells[k].worst.natAbs with unmoved | moved
  · rw [Int.natAbs_eq_zero.mp unmoved]
    exact foldl_worseOf_keeps fun c mem shot => (top c mem shot).trans_eq unmoved
  · have before : ∀ c ∈ st.cells.toList.take k, 0 < c.accepted → c.worst.natAbs < st.cells[k].worst.natAbs := by
      intro c mem
      obtain ⟨j, inside, rfl⟩ := List.mem_take_iff_getElem.mp mem
      exact first ⟨j, by omega⟩ (Nat.lt_min.mp inside).1
    have after : st.cells.toList.drop k = st.cells[k] :: st.cells.toList.drop (k + 1) := by
      rw [List.drop_eq_getElem_cons (by simp), Vector.getElem_toList]
      rfl
    have lower := foldl_worseOf_lt (w := 0) moved before
    have taken : worseOf ((st.cells.toList.take k).foldl worseOf 0) st.cells[k] = st.cells[k].worst :=
      if_pos ⟨shot, lower⟩
    rw [worst_eq_foldl, ← List.take_append_drop k st.cells.toList, List.foldl_append, after, List.foldl_cons, taken]
    exact foldl_worseOf_keeps fun c mem => top c (List.mem_of_mem_drop mem)

/-! ## The close of a strip -/

theorem closeStrip_absent {r : Record} {k : Nat} (beyond : r.strips.length ≤ k) (l : LimitSet) :
    r.closeStrip l k = r := by
  rw [Record.closeStrip, List.getElem?_eq_none beyond]

theorem closeStrip_closed {r : Record} {k : Nat} {st : Strip} (held : r.strips[k]? = some st) (closed : st.state = .closed)
    (l : LimitSet) : r.closeStrip l k = r := by
  rw [Record.closeStrip, held]
  exact if_neg (by simp [closed])

theorem closeStrip_opened {r : Record} {k : Nat} {st : Strip} (held : r.strips[k]? = some st) (opened : st.state = .opened)
    (l : LimitSet) : r.closeStrip l k = r.judgeStrip l k (st.close l r.shell.nominal) := by
  rw [Record.closeStrip, held]
  exact if_pos opened

/-- A strip before the lead crop is CROP and nothing else (R121). -/
theorem judgeStrip_cropped {r : Record} {k : Nat} (crop : k < r.shell.leadCrop) (l : LimitSet) (st : Strip) :
    r.judgeStrip l k st = { r with strips := r.strips.set k { st with kinds := 0x10#5 } } := if_pos crop

/-- A strip with the kinds that a limit set gives it (R122 to R124). -/
def judgedStrip (l : LimitSet) (st : Strip) : Strip := { st with kinds := l.judgedKinds st }

/-- Any other strip takes its kinds and flags, and with a kind offers its candidate (R122 to R128). -/
theorem judgeStrip_judged {r : Record} {k : Nat} (inside : r.shell.leadCrop ≤ k) (l : LimitSet) (st : Strip) :
    r.judgeStrip l k st =
      (let judged : Record := { r with
        strips := r.strips.set k (judgedStrip l st), derived := r.derived ||| (judgedStrip l st).derivedFlags }
       if l.judgedKinds st = 0 then judged else judged.offer
        { first := max (k - l.guard) r.shell.leadCrop, last := min (k + l.guard) 1023
          kinds := (l.judgedKinds st).setWidth 4, worst := (judgedStrip l st).worst }) := if_neg (Nat.not_lt.mpr inside)

/-- Settles O35: the cells and the eccentricity of the closed strip, its judgement by the place of its station, and the worst deviation. -/
theorem stripsCloseWithWorstDeviation : Obligations.StripsCloseWithWorstDeviation := by
  refine ⟨fun r l k => ⟨fun st held closed => closeStrip_closed held closed l, fun beyond => closeStrip_absent beyond l,
    fun st held opened => ?_⟩, fun st => ⟨worst_of_unshot, fun k => worst_of_first⟩⟩
  have cell := stripClose_cell st l r.shell.nominal
  have absent := stripClose_absent (st := st) (l := l) r.shell.nominal
  have present (greatest least : Nat) :=
    stripClose_present (st := st) (l := l) (greatest := greatest) (least := least) r.shell.nominal
  obtain ⟨kinds, ecc, cells, strip⟩ := stripClose_closed st l r.shell.nominal
  rw [closeStrip_opened held opened]
  rw [strip] at cell absent present ⊢
  refine ⟨cells, ecc, fun j => ⟨_, (cell j).trans (cellClose_eq ..), ?_, ?_⟩, ⟨absent, present⟩,
    fun crop => judgeStrip_cropped crop l _, fun inside => ?_⟩
  · exact fun settled => if_pos settled
  · exact fun unsettled => if_neg unsettled
  · exact ⟨_, _, judgedKinds_thin .., judgedKinds_thick .., judgedKinds_ecc .., judgedKinds_gap .., judgedKinds_crop ..,
      fun b low => derivedFlags_kinds _ low, derivedFlags_noisy _, judgeStrip_judged inside l _⟩

end Sys2Proof.Proofs

/-! SUPPORT. READ STRIPS in both forms, READ ZONES, POOL STATUS and POOL SET. -/

namespace Sys2Proof.Proofs

open Sys2Proof.Machine Sys2Proof.Laws

/-! ## Packed fields -/

/-- Packed fields lie in the bits of their widths. -/
theorem pack_lt (fields : List (Nat × Nat)) : pack fields < 2 ^ (fields.map Prod.fst).sum := by
  induction fields with
  | nil => exact Nat.one_pos
  | cons field rest ih =>
    obtain ⟨w, v⟩ := field
    have low : v % 2 ^ w < 2 ^ w := Nat.mod_lt _ (Nat.two_pow_pos w)
    calc v % 2 ^ w + 2 ^ w * pack rest < 2 ^ w * (pack rest + 1) := by rw [Nat.mul_succ]; omega
      _ ≤ 2 ^ w * 2 ^ (rest.map Prod.fst).sum := Nat.mul_le_mul_left _ ih
      _ = 2 ^ (((w, v) :: rest).map Prod.fst).sum := by rw [← Nat.pow_add, List.map_cons, List.sum_cons]

/-- Fields of one width that hold their values are packed as the digits of a number. -/
theorem pack_map_eq_foldr {α : Type} (w : Nat) (f : α → Nat) (small : ∀ a, f a < 2 ^ w) (as : List α) :
    pack (as.map fun a => (w, f a)) = (as.map f).foldr (fun v rest => v + 2 ^ w * rest) 0 := by
  induction as with
  | nil => rfl
  | cons a rest ih => rw [List.map_cons, pack, Nat.mod_eq_of_lt (small a), ih, List.map_cons, List.foldr_cons]

/-! ## The two forms of a strip -/

theorem flagCode_lt (b : Bool) : flagCode b < 2 := by cases b <;> decide

theorem stripHeader_eq (st : Strip) (k : Nat) : st.header k =
    le 2 (k % 1024 + 1024 * st.state.code + 2048 * st.kinds.toNat) ++
      le 2 (st.ecc.getD 0 % 512 + 32768 * (if st.ecc.isSome then 1 else 0)) := by
  have state : st.state.code < 2 := by cases st.state <;> decide
  have kinds := st.kinds.isLt
  have flag : flagCode st.ecc.isSome < 2 := flagCode_lt _
  have first : pack [(10, k), (1, st.state.code), (5, st.kinds.toNat)] =
      k % 1024 + 1024 * st.state.code + 2048 * st.kinds.toNat := by
    simp only [pack]
    omega
  have second : pack [(9, st.ecc.getD 0), (6, 0), (1, flagCode st.ecc.isSome)] =
      st.ecc.getD 0 % 512 + 32768 * flagCode st.ecc.isSome := by
    simp only [pack]
    omega
  rw [Strip.header, first, second]
  rfl

/-- A cell in the SUMMARY form: its mean in 18 bits and its state's code (R206). -/
theorem cellSummary_eq (c : Cell) : c.summary = le 3 ((c.sum / c.accepted) % 262144 + 262144 * c.state.code) := by
  have state : c.state.code < 8 := by cases c.state <;> decide
  have packed : pack [(18, c.mean), (3, c.state.code)] = (c.sum / c.accepted) % 262144 + 262144 * c.state.code := by
    simp only [pack, Cell.mean]
    omega
  rw [Cell.summary, packed]

theorem cellFull_lt (nominal : Nat) (c : Cell) : c.full nominal < 2 ^ 76 := pack_lt _

theorem selector_eq (c : Cell) (nominal : Nat) : c.selector nominal =
    if c.accepted ≠ 0 ∧ c.worst ≠ (c.min : Int) - (nominal : Int) then 1 else 0 :=
  if_congr decide_eq_true_iff rfl rfl

/-- A cell in the FULL form, field by field (R207). -/
theorem cellFull_eq (c : Cell) (nominal : Nat) : c.full nominal =
    cellCode c.state c.outcome % 8 + 2 ^ 3 * (c.need % 16) + 2 ^ 7 * flagCode c.noisy + 2 ^ 8 * c.selector nominal +
      2 ^ 9 * (c.accepted % 256) + 2 ^ 17 * (c.rejected % 256) + 2 ^ 25 * (c.relative nominal c.min % 131072) +
      2 ^ 42 * (c.relative nominal c.max % 131072) + 2 ^ 59 * (c.relative nominal c.mean % 131072) := by
  have noisy : flagCode c.noisy < 2 := flagCode_lt _
  have selector : c.selector nominal < 2 := flagCode_lt _
  simp only [Cell.full, pack]
  omega

/-! ## READ STRIPS -/

/-- The strips of a run of a list, each with its station. -/
theorem stripsOctets_run (each : Strip → Nat → List Byte) (strips : List Strip) (default : Strip) (n first : Nat) :
    stripsOctets each first ((strips.drop first).take n) =
      (List.range' first (min n (strips.length - first))).flatMap fun k => each (strips.getD k default) k := by
  induction n generalizing first with
  | zero => simp [stripsOctets]
  | succ n ih =>
    by_cases inside : first < strips.length
    · have more : min (n + 1) (strips.length - first) = min n (strips.length - (first + 1)) + 1 := by omega
      rw [List.drop_eq_getElem_cons inside, List.take_succ_cons, stripsOctets, ih, more, List.range'_succ,
        List.flatMap_cons, List.getD_eq_getElem _ _ inside]
    · have none_left : strips.length - first = 0 := by omega
      rw [List.drop_eq_nil_of_le (Nat.not_lt.mp inside), none_left, Nat.min_zero]
      rfl

theorem stripsPerReply_eq (form : Byte) : stripsPerReply form = if form.toNat = 0 then 6 else 2 :=
  if_congr BitVec.toNat_inj.symm rfl rfl

/-- READ STRIPS in the order of its checks (R106), with the stations of the strips it gives. -/
theorem readStrips_eq (form : Byte) (first : Half) (count : Byte) (i : Fin Config.slots) (s : State) :
    let r := s.slot i
    let stations := List.range' first.toNat (min count.toNat (r.strips.length - first.toNat))
    let strip := fun k => r.strips.getD k { state := .opened, kinds := 0, ecc := none }
    readStrips form first count i s =
      if r.rejudging = true then .refuse .busy
      else if 1 < form.toNat then .refuse .range 1
      else if count.toNat < 1 ∨ (if form.toNat = 0 then 6 else 2) < count.toNat then .refuse .range 3
      else if r.strips.length ≤ first.toNat then .refuse .range 2
      else if form.toNat = 0 then
        .done (le 1 i ++ [r.generation, form] ++ le 1 stations.length ++ stations.flatMap fun k => (strip k).summary k)
      else .done (le 1 i ++ [r.generation, form] ++ le 1 stations.length ++ le 4 r.shell.nominal ++
        stations.flatMap fun k => (strip k).full r.shell.nominal k) := by
  intro r stations strip
  have run (each : Strip → Nat → List Byte) :
      stripsOctets each first.toNat ((r.strips.drop first.toNat).take count.toNat) =
      stations.flatMap fun k => each (strip k) k := stripsOctets_run each r.strips _ count.toNat first.toNat
  have number : ((r.strips.drop first.toNat).take count.toNat).length = stations.length := by
    rw [List.length_take, List.length_drop, List.length_range']
  have counted : (!within 1 (stripsPerReply form) count.toNat) = true ↔
      count.toNat < 1 ∨ (if form.toNat = 0 then 6 else 2) < count.toNat := by
    rw [Bool.not_eq_true', within_eq_false, stripsPerReply_eq]
  unfold readStrips
  dsimp only
  rw [run, run, number]
  exact if_congr Iff.rfl rfl (if_congr Iff.rfl rfl (if_congr counted rfl (if_congr Iff.rfl rfl
    (if_congr BitVec.toNat_inj.symm rfl rfl))))

/-- A command on a record that only reads answers by the record found, and changes nothing else. -/
theorem readRecord_answers {s : State} {h : Header} {row : RequestRow} {ref : RecordRef} {i : Fin Config.slots}
    (found : s.resolve ref = .ok i) (ok : s.Admits h row) {read : Fin Config.slots → State → Answer} {a : Answer}
    (answers : read i s.frameIn = a) : answering h row (withRecord ref fun i => reading (read i)) s =
      .next (s.frameIn.answered h row.code a.outcome a.body a.effect) :=
  answering_ran ok ((withRecord_ok found _).trans (congrArg (Prod.mk s.frameIn) answers)) rfl

/-- A strip in the SUMMARY form, octet by octet (R205, R206). -/
theorem stripSummary_eq (st : Strip) (k : Nat) : st.summary k =
    (le 2 (k % 1024 + 1024 * st.state.code + 2048 * st.kinds.toNat) ++
      le 2 (st.ecc.getD 0 % 512 + 32768 * (if st.ecc.isSome then 1 else 0))) ++
    st.cells.toList.flatMap fun c => le 3 ((c.sum / c.accepted) % 262144 + 262144 * c.state.code) := by
  rw [Strip.summary, stripHeader_eq, ← funext cellSummary_eq]

/-- A strip in the FULL form: its cells' 76 bits each, one after another (R205, R207). -/
theorem stripFull_eq (st : Strip) (nominal k : Nat) : st.full nominal k =
    (le 2 (k % 1024 + 1024 * st.state.code + 2048 * st.kinds.toNat) ++
      le 2 (st.ecc.getD 0 % 512 + 32768 * (if st.ecc.isSome then 1 else 0))) ++
    le 114 ((st.cells.toList.map fun c => c.full nominal).foldr (fun v rest => v + 2 ^ 76 * rest) 0) := by
  rw [Strip.full, stripHeader_eq, pack_map_eq_foldr 76 _ (cellFull_lt nominal)]

/-- Settles O42: the checks of READ STRIPS in order, then its two forms; READ ZONES. -/
theorem stripsAndZonesAreRead : Obligations.StripsAndZonesAreRead := by
  intro s h ref i found r header
  constructor
  · intro form first count ok stations
    have answers {a : Answer} := readRecord_answers (a := a) (read := readStrips form first count) found ok
    have unframed : readStrips form first count i s.frameIn = readStrips form first count i s := rfl
    have reads := unframed.trans (readStrips_eq form first count i s)
    dsimp only at reads
    refine ⟨fun busy => ?_, fun quiet bad => ?_, fun quiet known bad => ?_, fun quiet known low high beyond => ?_,
      fun quiet summary low high inside => ?_, fun quiet full low high inside => ?_⟩
    · rw [if_pos busy] at reads
      exact answers reads
    · rw [if_neg (Bool.eq_false_iff.mp quiet), if_pos bad] at reads
      exact answers reads
    · rw [if_neg (Bool.eq_false_iff.mp quiet), if_neg (Nat.not_lt.mpr known), if_pos bad] at reads
      exact answers reads
    · rw [if_neg (Bool.eq_false_iff.mp quiet), if_neg (Nat.not_lt.mpr known), if_neg (by omega), if_pos beyond] at reads
      exact answers reads
    · obtain rfl : form = 0 := BitVec.eq_of_toNat_eq summary
      rw [if_neg (Bool.eq_false_iff.mp quiet), if_neg (by omega), if_neg (by rw [if_pos summary]; omega),
        if_neg (Nat.not_le.mpr inside), if_pos summary] at reads
      simp only [stripSummary_eq] at reads
      exact answers reads
    · obtain rfl : form = 1 := BitVec.eq_of_toNat_eq full
      rw [if_neg (Bool.eq_false_iff.mp quiet), if_neg (by omega), if_neg (by rw [if_neg (by omega)]; omega),
        if_neg (Nat.not_le.mpr inside), if_neg (by omega)] at reads
      simp only [stripFull_eq, cellFull_eq, selector_eq] at reads
      exact answers reads
  · intro ok
    have answers {a : Answer} := readRecord_answers (a := a) (read := readZones) found ok
    split_ifs with busy
    · exact answers (if_pos busy)
    · exact answers (if_neg busy)

/-! ## The pool -/

theorem poolSet_unknown {b : Byte} (off : b ≠ 0) (on : b ≠ 1) (s : State) :
    poolSet b s = (s, .refuse .range 1 (le 1 (flagCode s.eviction))) := by
  have zero : b.toNat ≠ 0 := fun is => off (BitVec.eq_of_toNat_eq is)
  have one : b.toNat ≠ 1 := fun is => on (BitVec.eq_of_toNat_eq is)
  exact if_pos (by omega)

theorem settingOctet_eq (b : Bool) : le 1 (flagCode b) = [if b then 1 else 0] := by
  cases b <;> rfl

/-- Settles O41: POOL STATUS reads; POOL SET by its setting. -/
theorem poolCommandsAct : Obligations.PoolCommandsAct := by
  intro s h
  refine ⟨fun ok => ?_, fun b ok => ⟨?_, ?_, fun off on => ?_⟩⟩
  · have read := reading_admitted ok poolStatus
    rw [poolStatus, settingOctet_eq] at read
    exact read
  · rintro rfl
    exact answering_ran ok (run := poolSet 0) rfl rfl
  · rintro rfl
    exact answering_ran ok (run := poolSet 1) rfl rfl
  · have ran := answering_ran ok (poolSet_unknown off on s.frameIn) rfl
    rw [settingOctet_eq] at ran
    exact ran

end Sys2Proof.Proofs

/-! SUPPORT. The state after reset meets the invariants. -/

namespace Sys2Proof.Proofs

open Sys2Proof.Machine Sys2Proof.Laws

/-! ## The values of power-on -/

/-- The supply, applied at reset with the straps at 0, makes the state after reset. -/
theorem applySupply_reset : State.reset.applySupply 0 = State.reset := rfl

theorem applySupply_pool (s : State) (straps : BitVec 2) : PoolConserved (s.applySupply straps) :=
  pool_of_empty (by simp [State.slot, State.applySupply, State.powerOn]) rfl

theorem zonesOrdered_free (generation : Byte) : (Record.free generation).ZonesOrdered where
  strips := Nat.zero_le _
  few := Nat.zero_le _
  span _ mem := absurd mem List.not_mem_nil
  apart := .nil

theorem applySupply_zones (s : State) (straps : BitVec 2) : ZonesInOrder (s.applySupply straps) := by
  intro i
  have free : (s.applySupply straps).slot i = .free 0 := (powerOn_values straps _ _ _).slots i
  rw [free]
  exact zonesOrdered_free 0

theorem powerOn_ringSound (straps : BitVec 2) : RingSound (RingPort.powerOn straps) where
  phase := by simp [RingPort.powerOn]
  sending sends := nomatch sends
  address := by
    show 2 ≤ 10 * 4 + straps.toNat
    omega
  effects _ mem := absurd mem List.not_mem_nil
  stations k st held := by simp [RingPort.powerOn] at held
  distinct j k _ st held := by simp [RingPort.powerOn] at held

/-- Settles O59: reset is the supply applied to itself, and what the supply makes meets each invariant. -/
theorem resetMeetsInvariants : Obligations.ResetMeetsInvariants := by
  unfold Obligations.ResetMeetsInvariants
  rw [← applySupply_reset]
  obtain ⟨lines, candidate⟩ := (follows_iff _).mp (applySupply_follows State.reset 0)
  exact ⟨lines, candidate, applySupply_pool State.reset 0, applySupply_bounded State.reset 0,
    applySupply_linked State.reset 0, applySupply_zones State.reset 0, powerOn_ringSound 0⟩

end Sys2Proof.Proofs

/-! SUPPORT. Zone lists: what a candidate makes of a list in order, and what judging, closing and trimming keep of the order. -/

namespace Sys2Proof.Proofs

open Sys2Proof.Machine Sys2Proof.Laws

/-! ## Lists in order -/

/-- The zones of a list each span stations up to 1,023, with more than one station between a zone and the next (R127 to R129). -/
structure ZonesApart (zones : List Zone) : Prop where
  span : ∀ z ∈ zones, z.first ≤ z.last ∧ z.last ≤ Config.lastStation
  apart : zones.Pairwise fun a b => a.last + 1 < b.first

theorem zonesApart_of_ordered {r : Record} (ordered : r.ZonesOrdered) : ZonesApart r.zones :=
  ⟨ordered.span, ordered.apart⟩

theorem zonesApart_nil : ZonesApart [] := ⟨fun _ mem => absurd mem List.not_mem_nil, .nil⟩

/-- A list ends in order when its last zone spans stations past all the zones before it. -/
theorem zonesApart_snoc {before : List Zone} {z : Zone} : ZonesApart (before ++ [z]) ↔
    ZonesApart before ∧ (z.first ≤ z.last ∧ z.last ≤ Config.lastStation) ∧ ∀ y ∈ before, y.last + 1 < z.first := by
  constructor
  · rintro ⟨span, apart⟩
    obtain ⟨first, -, between⟩ := List.pairwise_append.mp apart
    exact ⟨⟨fun y mem => span y (List.mem_append_left _ mem), first⟩, span z (by simp),
      fun y mem => between y mem z (List.mem_singleton_self z)⟩
  · rintro ⟨⟨span, apart⟩, spans, past⟩
    refine ⟨fun y mem => ?_, List.pairwise_append.mpr ⟨apart, List.pairwise_singleton _ _, ?_⟩⟩
    · rcases List.mem_append.mp mem with early | last
      · exact span y early
      · exact List.mem_singleton.mp last ▸ spans
    · exact fun y mem w last => List.mem_singleton.mp last ▸ past y mem

/-! ## A widened zone -/

/-- A widened zone that starts past every zone before it stays a zone of its own (R129). -/
theorem absorb_past {before : List Zone} {w : Zone} (past : ∀ y ∈ before, y.last + 1 < w.first) :
    absorb before w = w :: before := by
  cases before with
  | nil => rfl
  | cons p rest => exact if_neg (Nat.not_le.mpr (past p List.mem_cons_self))

/-- The list in which a widened zone stands last, merged backwards as far as it reaches. -/
def settleLast (before : List Zone) (w : Zone) : List Zone := (absorb before.reverse w).reverse

theorem settleLast_past {before : List Zone} {w : Zone} (past : ∀ y ∈ before, y.last + 1 < w.first) :
    settleLast before w = before ++ [w] := by
  rw [settleLast, absorb_past fun y mem => past y (List.mem_reverse.mp mem), List.reverse_cons, List.reverse_reverse]

/-- A widened zone that reaches the zone before it is merged with that one alone, since the merged zone keeps the earlier first station (log entry 7). -/
theorem settleLast_reaches {earlier : List Zone} {p w : Zone} (past : ∀ y ∈ earlier, y.last + 1 < p.first)
    (reaches : w.first ≤ p.last + 1) : settleLast (earlier ++ [p]) w = earlier ++ [p.takeIn w] := by
  have merged : absorb (earlier ++ [p]).reverse w = absorb earlier.reverse (p.takeIn w) := by
    rw [List.reverse_append]
    exact if_pos reaches
  rw [settleLast, merged]
  exact settleLast_past past

/-- A widened zone leaves a list in order in order. -/
theorem settleLast_apart {before : List Zone} {w : Zone} (ordered : ZonesApart before) (first : w.first ≤ w.last)
    (last : w.last ≤ Config.lastStation) : ZonesApart (settleLast before w) := by
  rcases List.eq_nil_or_concat before with rfl | ⟨earlier, p, rfl⟩
  · exact zonesApart_snoc.mpr ⟨zonesApart_nil, ⟨first, last⟩, by simp⟩
  rw [List.concat_eq_append] at ordered ⊢
  obtain ⟨early, ⟨p_first, p_last⟩, past⟩ := zonesApart_snoc.mp ordered
  by_cases reaches : w.first ≤ p.last + 1
  · rw [settleLast_reaches past reaches]
    exact zonesApart_snoc.mpr ⟨early, ⟨p_first.trans (Nat.le_max_left _ _), Nat.max_le.mpr ⟨p_last, last⟩⟩, past⟩
  · have beyond : ∀ y ∈ earlier ++ [p], y.last + 1 < w.first := by
      intro y mem
      rcases List.mem_append.mp mem with mem | mem
      · have := past y mem
        omega
      · obtain rfl := List.mem_singleton.mp mem
        omega
    rw [settleLast_past beyond]
    exact zonesApart_snoc.mpr ⟨ordered, ⟨first, last⟩, beyond⟩

/-! ## A candidate -/

/-- A candidate at a list with a last zone: merged into it when it reaches it or no place is left, a new last zone otherwise (R129, R130). -/
theorem takeCandidate_snoc (before : List Zone) (z c : Zone) : takeCandidate (before ++ [z]) c =
    if c.first ≤ z.last + 1 then (settleLast before (z.merge c), false)
    else if 16 ≤ (before ++ [z]).length then (settleLast before (z.merge c), true)
    else (before ++ [z] ++ [c], false) := by
  have reversed : (before ++ [z]).reverse = z :: before.reverse := by simp
  rw [takeCandidate, reversed]
  rfl

/-- A candidate leaves a list in order in order. -/
theorem takeCandidate_apart {zones : List Zone} {c : Zone} (ordered : ZonesApart zones) (first : c.first ≤ c.last)
    (last : c.last ≤ Config.lastStation) : ZonesApart (takeCandidate zones c).1 := by
  rcases List.eq_nil_or_concat zones with rfl | ⟨before, z, rfl⟩
  · exact zonesApart_snoc.mpr ⟨zonesApart_nil, ⟨first, last⟩, by simp⟩
  rw [List.concat_eq_append] at ordered ⊢
  obtain ⟨early, ⟨z_first, z_last⟩, past⟩ := zonesApart_snoc.mp ordered
  have merged : ZonesApart (settleLast before (z.merge c)) :=
    settleLast_apart early (Nat.min_le_left _ _ |>.trans (z_first.trans (Nat.le_max_left _ _)))
      (Nat.max_le.mpr ⟨z_last, last⟩)
  rw [takeCandidate_snoc]
  split_ifs with reaches full
  · exact merged
  · exact merged
  · refine zonesApart_snoc.mpr ⟨ordered, ⟨first, last⟩, fun y mem => ?_⟩
    rcases List.mem_append.mp mem with mem | mem
    · have := past y mem
      omega
    · obtain rfl := List.mem_singleton.mp mem
      omega

/-- What is offered to a record goes to its zone list; only a merge for want of a place is marked (R130). -/
theorem offer_of_taken {r : Record} {c : Zone} {zones : List Zone} (taken : takeCandidate r.zones c = (zones, false)) :
    r.offer c = { r with zones } := by
  rw [Record.offer, taken]
  rfl

theorem offer_of_merged {r : Record} {c : Zone} {zones : List Zone} (taken : takeCandidate r.zones c = (zones, true)) :
    r.offer c = { r with zones, history := r.history ||| 0x080#10 } := by
  rw [Record.offer, taken]
  rfl

/-- Settles O36: the candidate meets no zone, or the last zone of the list, which it reaches or not. -/
theorem zonesTakeCandidates : Obligations.ZonesTakeCandidates := by
  intro r c ordered first last
  refine ⟨fun empty => ?_, fun some past room => ?_, fun before z is past full => ?_, fun before z is reaches => ?_⟩
  · exact offer_of_taken (by rw [empty]; rfl)
  · obtain ⟨before, z, is⟩ := (List.eq_nil_or_concat r.zones).resolve_left some
    rw [List.concat_eq_append] at is
    have beyond := past z (by simp [is])
    rw [is] at room
    refine offer_of_taken ?_
    rw [is, takeCandidate_snoc, if_neg (Nat.not_le.mpr beyond), if_neg (Nat.not_le.mpr room)]
  · have beyond := past z (by simp [is])
    obtain ⟨-, ⟨z_first, z_last⟩, apart⟩ := zonesApart_snoc.mp (is ▸ zonesApart_of_ordered ordered)
    have widened : z.merge c = { first := z.first, last := c.last, kinds := z.kinds ||| c.kinds
                                 worst := if z.worst.natAbs < c.worst.natAbs then c.worst else z.worst } := by
      rw [Zone.merge, Nat.min_eq_left (by omega), Nat.max_eq_right (by omega)]
    rw [is] at full
    refine offer_of_merged ?_
    rw [is, takeCandidate_snoc, if_neg (Nat.not_le.mpr beyond), if_pos full, widened]
    exact congrArg (Prod.mk · true) (settleLast_past apart)
  · have taken : takeCandidate r.zones c = (settleLast before (z.merge c), false) := by
      rw [is, takeCandidate_snoc, if_pos reaches]
    refine ⟨fun past => offer_of_taken ?_, fun earlier p ends back => offer_of_taken ?_⟩
    · rw [taken, settleLast_past (w := z.merge c) past]
      rfl
    · obtain ⟨apart, -, -⟩ := zonesApart_snoc.mp (is ▸ zonesApart_of_ordered ordered)
      obtain ⟨-, -, past⟩ := zonesApart_snoc.mp (ends ▸ apart)
      rw [taken, ends, settleLast_reaches (w := z.merge c) past back]
      rfl

/-! ## Records -/

/-- A record with as many strips and the same zones has its zones in order. -/
theorem zonesOrdered_congr {r r' : Record} (ordered : r.ZonesOrdered) (strips : r'.strips.length = r.strips.length)
    (zones : r'.zones = r.zones) : r'.ZonesOrdered where
  strips := strips ▸ ordered.strips
  few := zones ▸ ordered.few
  span := zones ▸ ordered.span
  apart := zones ▸ ordered.apart

/-- A record within its strips and without zones has its zones in order. -/
theorem zonesOrdered_nil {r : Record} (strips : r.strips.length ≤ Config.maxStations) (zones : r.zones = []) :
    r.ZonesOrdered where
  strips := strips
  few := by simp [zones]
  span := by simp [zones]
  apart := by simp [zones]

theorem made_ordered (generation : Byte) (state : LifeState) (shell : ShellSettings) (id : Option Word)
    (history : BitVec 10) : (Record.made generation state shell id history).ZonesOrdered :=
  zonesOrdered_nil (Nat.zero_le _) rfl

theorem flag_ordered {r : Record} (ordered : r.ZonesOrdered) (k : HistoryFlag) : (r.flag k).ZonesOrdered :=
  zonesOrdered_congr ordered rfl rfl

theorem offer_ordered {r : Record} (ordered : r.ZonesOrdered) {c : Zone} (first : c.first ≤ c.last)
    (last : c.last ≤ Config.lastStation) : (r.offer c).ZonesOrdered := by
  have taken := takeCandidate_apart (zonesApart_of_ordered ordered) first last
  have offered : (r.offer c).zones = (takeCandidate r.zones c).1 := by
    unfold Record.offer
    dsimp only
    split <;> rfl
  exact
    { strips := (sameShell_offer r c).strips ▸ ordered.strips
      few := offer_zones ordered.few c
      span := offered ▸ taken.span
      apart := offered ▸ taken.apart }

/-- A strip of the record that is judged offers a candidate of stations around its own, within the crop and 1,023 (R128). -/
theorem judgeStrip_ordered {r : Record} (ordered : r.ZonesOrdered) (l : LimitSet) {station : Nat}
    (inside : station < r.strips.length) (st : Strip) : (r.judgeStrip l station st).ZonesOrdered := by
  by_cases crop : station < r.shell.leadCrop
  · rw [judgeStrip_cropped crop]
    exact zonesOrdered_congr ordered (by simp) rfl
  · have judged (strip : Strip) (derived : BitVec 5) :
        Record.ZonesOrdered { r with strips := r.strips.set station strip, derived } :=
      zonesOrdered_congr ordered (by simp) rfl
    have bound : station ≤ 1023 := Nat.le_of_lt_succ (inside.trans_le ordered.strips)
    rw [judgeStrip_judged (Nat.not_lt.mp crop)]
    dsimp only
    split
    · exact judged _ _
    · exact offer_ordered (judged _ _) (by simp only; omega) (Nat.min_le_right _ _)

theorem closeStrip_ordered {r : Record} (ordered : r.ZonesOrdered) (l : LimitSet) (station : Nat) :
    (r.closeStrip l station).ZonesOrdered := by
  unfold Record.closeStrip
  split
  · rename_i st held
    split
    · exact judgeStrip_ordered ordered l (List.getElem?_eq_some_iff.mp held).1 _
    · exact ordered
  · exact ordered

theorem closeStrips_ordered {r : Record} (ordered : r.ZonesOrdered) (l : LimitSet) (p : Nat → Bool) :
    (r.closeStrips l p).ZonesOrdered := by
  unfold Record.closeStrips
  generalize List.range r.strips.length = ks
  induction ks generalizing r with
  | nil => exact ordered
  | cons k rest ih =>
    refine ih ?_
    dsimp only
    split
    · exact closeStrip_ordered ordered l k
    · exact ordered

theorem rejudgeStrip_ordered {r : Record} (ordered : r.ZonesOrdered) (copy : LimitSet) (station : Nat) :
    (r.rejudgeStrip copy station).ZonesOrdered := by
  unfold Record.rejudgeStrip
  split
  · rename_i st held
    exact judgeStrip_ordered ordered copy (List.getElem?_eq_some_iff.mp held).1 _
  · exact ordered

theorem truncateAt_ordered {r : Record} (ordered : r.ZonesOrdered) : r.truncateAt.ZonesOrdered := by
  unfold Record.truncateAt
  split
  · exact flag_ordered ordered _
  · exact ordered

/-- Trimming drops zones and shortens the others, none below its first station (R131). -/
theorem trimmedZones_apart {r : Record} (ordered : r.ZonesOrdered) : ZonesApart r.trimmedZones where
  span z mem := by
    simp only [Record.trimmedZones, List.mem_map, List.mem_filter, decide_eq_true_eq] at mem
    obtain ⟨y, ⟨held, starts⟩, rfl⟩ := mem
    obtain ⟨first, last⟩ := ordered.span y held
    dsimp only
    omega
  apart := by
    refine List.pairwise_map.mpr ((ordered.apart.filter _).imp fun {a b} past => ?_)
    dsimp only
    omega

theorem giveVerdict_ordered {r : Record} (ordered : r.ZonesOrdered) (l : LimitSet) : (r.giveVerdict l).ZonesOrdered := by
  have trimmed := trimmedZones_apart ordered
  constructor <;> simp only [giveVerdict_strips, giveVerdict_zones]
  · exact ordered.strips
  · rw [Record.trimmedZones, List.length_map]
    exact (List.length_filter_le ..).trans ordered.few
  · exact trimmed.span
  · exact trimmed.apart

end Sys2Proof.Proofs

/-! SUPPORT. Every step keeps the zone list of every record in order. -/

namespace Sys2Proof.Proofs

open Sys2Proof.Machine Sys2Proof.Laws

/-! ## Changes of the state -/

theorem inOrder_of_slots {s t : State} (slots : t.slots = s.slots) (ordered : ZonesInOrder s) : ZonesInOrder t := by
  intro i
  rw [State.slot, slots]
  exact ordered i

theorem SameTable.inOrder {s t : State} (same : SameTable s t) : ZonesInOrder s → ZonesInOrder t :=
  inOrder_of_slots same.slots

/-- A change of one record keeps the order when the new record's zones are in order. -/
theorem modSlot_inOrder {s : State} (ordered : ZonesInOrder s) {i : Fin Config.slots} {f : Record → Record}
    (record : (f (s.slot i)).ZonesOrdered) : ZonesInOrder (s.modSlot i f) := by
  intro j
  rw [modSlot_slot]
  split
  · exact record
  · exact ordered j

/-- A change of one record that neither its zones nor the number of its strips sees. -/
theorem modSlot_inOrder_congr {s : State} (ordered : ZonesInOrder s) {i : Fin Config.slots} {f : Record → Record}
    (strips : (f (s.slot i)).strips.length = (s.slot i).strips.length) (zones : (f (s.slot i)).zones = (s.slot i).zones) :
    ZonesInOrder (s.modSlot i f) :=
  modSlot_inOrder ordered (zonesOrdered_congr (ordered i) strips zones)

theorem flagSlot_inOrder {s : State} (ordered : ZonesInOrder s) (i : Fin Config.slots) (k : HistoryFlag) :
    ZonesInOrder (s.modSlot i fun r => r.flag k) :=
  modSlot_inOrder_congr ordered rfl rfl

theorem refUp_inOrder {s : State} (ordered : ZonesInOrder s) (g : Fin Config.materials) : ZonesInOrder (s.refUp g) :=
  ordered

theorem inOrder_requestSafe : RequestSafe ZonesInOrder where
  frame s := (sameTable_setRing s _).inOrder
  count s _ := (sameTable_setRing s _).inOrder
  shed s := (sameTable_raise s _ _).inOrder
  enqueue s h code a := (sameTable_enqueue s h code a).inOrder

/-! ## Freeing and allocation -/

theorem freeRecord_inOrder {s : State} (ordered : ZonesInOrder s) (i : Fin Config.slots) :
    ZonesInOrder (s.freeRecord i) := by
  intro j
  by_cases at_i : i = j
  · subst at_i
    rw [freeRecord_slot_same]
    exact zonesOrdered_free _
  · rw [freeRecord_slot_other _ _ _ at_i]
    exact ordered j

theorem evict_inOrder (s t : State) (ordered : ZonesInOrder s) (evicted : s.evict = some t) : ZonesInOrder t := by
  obtain ⟨i, -, -, -, rfl⟩ := evict_some evicted
  exact freeRecord_inOrder ordered i

/-- A strip taken for a record with fewer than 1,024 strips leaves its zones as they were. -/
theorem takeStrip_inOrder {s : State} (ordered : ZonesInOrder s) {i : Fin Config.slots}
    (room : (s.slot i).strips.length < Config.maxStations) : ZonesInOrder (s.takeStrip i) := by
  have taken : ZonesInOrder { s with freeStrips := s.freeStrips - 1 } := ordered
  exact modSlot_inOrder taken { ordered i with strips := by rw [List.length_append]; exact room }

theorem takeStrip_strips (s : State) (i : Fin Config.slots) :
    ((s.takeStrip i).slot i).strips.length = (s.slot i).strips.length + 1 := by
  rw [takeStrip_slot_same, List.length_append]
  rfl

/-- An allocation of strips within the stations of a record keeps the order. -/
theorem allocStrips_inOrder (i : Fin Config.slots) (n : Nat) {s : State} (ordered : ZonesInOrder s)
    (room : (s.slot i).strips.length + n ≤ Config.maxStations) : ZonesInOrder (State.allocStrips n i s).1 := by
  induction n generalizing s with
  | zero => exact ordered
  | succ n ih =>
    obtain ⟨sought, fewer⟩ := seekStrip_keeps (s := s)
      (P := fun u => ZonesInOrder u ∧ (u.slot i).strips.length ≤ (s.slot i).strips.length)
      (fun u v ⟨kept, few⟩ evicted => ⟨evict_inOrder u v kept evicted, (evict_strips_le evicted i).trans few⟩)
      ⟨ordered, Nat.le_refl _⟩
    rw [allocStrips_succ]
    split
    · exact sought
    · exact ih (takeStrip_inOrder sought (by omega)) (by rw [takeStrip_strips]; omega)

/-! ## Commands on records -/

theorem arm_inOrder (id : Word) (f : ShellFields) (s : State) (ordered : ZonesInOrder s) :
    ZonesInOrder (arm id f s).1 := by
  unfold arm
  split
  · exact ordered
  · dsimp only
    split
    · exact ordered
    · split
      · exact ordered
      · split
        · exact ordered
        · split
          · exact ordered
          · rename_i i t taken
            have kept := allocSlot_keeps evict_inOrder ordered taken
            have queued : ZonesInOrder { t with armQueue := t.armQueue ++ [i] } := kept
            exact refUp_inOrder (modSlot_inOrder queued (made_ordered _ _ _ _ _)) _

theorem disarm_inOrder (i : Fin Config.slots) (s : State) (ordered : ZonesInOrder s) :
    ZonesInOrder (disarm i s).1 := by
  unfold disarm
  split
  · exact freeRecord_inOrder ordered i
  · exact ordered

theorem amend_inOrder (f : AmendFields) (i : Fin Config.slots) (s : State) (ordered : ZonesInOrder s) :
    ZonesInOrder (amend f i s).1 := by
  unfold amend
  split
  · exact ordered
  · split
    · exact ordered
    · split
      · exact ordered
      · have moved : ZonesInOrder (s.moveRef (s.slot i).shell.grade (AmendFields.newGrade f (s.slot i).shell.grade)) :=
          inOrder_of_slots (by rw [moveRef_eq]) ordered
        exact modSlot_inOrder_congr (f := fun r => r.amended f) moved (by rw [amended_eq]) (by rw [amended_eq])

theorem materialWrite_slots (entry : Byte) (f : MaterialValues) (s : State) :
    (materialWrite entry f s).1.slots = s.slots := by
  unfold materialWrite
  split
  · rfl
  · split
    · rfl
    · split <;> rfl

theorem materialClear_slots (entry : Byte) (s : State) : (materialClear entry s).1.slots = s.slots := by
  unfold materialClear
  split
  · rfl
  · split <;> rfl

theorem claim_inOrder (source : Byte) (i : Fin Config.slots) (s : State) (ordered : ZonesInOrder s) :
    ZonesInOrder (claim source i s).1 := by
  unfold claim
  dsimp only
  split
  · exact ordered
  · split
    · exact ordered
    · split
      · exact ordered
      · exact modSlot_inOrder_congr (f := fun r => { r with claims := r.claims ++ [source] }) ordered rfl rfl

theorem release_inOrder (source : Byte) (i : Fin Config.slots) (s : State) (ordered : ZonesInOrder s) :
    ZonesInOrder (release source i s).1 := by
  unfold release
  dsimp only
  split
  · exact ordered
  · split
    · exact freeRecord_inOrder ordered i
    · exact modSlot_inOrder_congr (f := fun r => { r with claims := r.without source }) ordered rfl rfl

theorem retire_inOrder (option : RetireOption) (i : Fin Config.slots) (s : State) (ordered : ZonesInOrder s) :
    ZonesInOrder (retire option i s).1 := by
  have freed := freeRecord_inOrder ordered i
  unfold retire
  dsimp only
  split
  · exact ordered
  · split
    · exact freed
    · split
      · exact ordered
      · split
        · exact ordered
        · split
          · exact freed
          · split
            · exact ordered
            · exact modSlot_inOrder_congr (f := fun r => { r with retirePending := true }) ordered rfl rfl

/-! ## Rejudging -/

theorem endRejudge_inOrder {s : State} (ordered : ZonesInOrder s) (run : RejudgeRun) :
    ZonesInOrder (s.endRejudge run) := by
  have judged : ZonesInOrder (s.modSlot run.slot fun r =>
      { (if r.state = .complete then r.giveVerdict run.copy else r) with rejudging := false }) := by
    refine modSlot_inOrder ordered ?_
    dsimp only
    split
    · exact zonesOrdered_congr (giveVerdict_ordered (ordered run.slot) run.copy) rfl rfl
    · exact zonesOrdered_congr (ordered run.slot) rfl rfl
  exact judged

theorem rejudge_inOrder (i : Fin Config.slots) (s : State) (ordered : ZonesInOrder s) :
    ZonesInOrder (rejudge i s).1 := by
  unfold rejudge
  split
  · exact ordered
  · split
    · exact ordered
    · split
      · exact ordered
      · have running : ZonesInOrder { s with
            engine := some { slot := i, copy := s.limit (s.slot i).shell.limitSet, reached := 0 } } := ordered
        have started := modSlot_inOrder (i := i) (f := fun r => { r with rejudging := true, derived := 0, zones := [] })
          running (zonesOrdered_nil (ordered i).strips rfl)
        simp only [State.startRejudge]
        split
        · exact endRejudge_inOrder started _
        · exact started

theorem rejudgeStep_inOrder {s : State} (ordered : ZonesInOrder s) : ZonesInOrder s.rejudgeStep := by
  unfold State.rejudgeStep
  split
  · exact ordered
  · rename_i run _
    split
    · have running : ZonesInOrder { s with engine := some { run with reached := run.reached + 1 } } := ordered
      exact modSlot_inOrder running (rejudgeStrip_ordered (ordered run.slot) _ _)
    · exact endRejudge_inOrder ordered run

/-! ## Completions -/

theorem poolShort_inOrder {s : State} (ordered : ZonesInOrder s) (i : Fin Config.slots) :
    ZonesInOrder (s.poolShort i) := by
  unfold State.poolShort
  dsimp only
  split <;> exact flagSlot_inOrder ordered i .poolShort

theorem closeAll_inOrder {s : State} (ordered : ZonesInOrder s) (i : Fin Config.slots) : ZonesInOrder (s.closeAll i) :=
  modSlot_inOrder ordered (closeStrips_ordered (ordered i) _ _)

theorem voidRecord_inOrder {s : State} (ordered : ZonesInOrder s) (i : Fin Config.slots) :
    ZonesInOrder (s.voidRecord i) :=
  modSlot_inOrder_congr (f := fun r => { r with state := .void, verdict := .incomplete }) ordered rfl rfl

theorem finishRecord_inOrder {s : State} (ordered : ZonesInOrder s) (i : Fin Config.slots) :
    ZonesInOrder (s.finishRecord i) :=
  modSlot_inOrder (f := fun r => { r.giveVerdict (s.limit r.shell.limitSet) with state := .complete }) ordered
    (zonesOrdered_congr (giveVerdict_ordered (ordered i) _) rfl rfl)

theorem fillStrips_inOrder {s : State} (ordered : ZonesInOrder s) (i : Fin Config.slots) :
    ZonesInOrder (s.fillStrips i).1 := by
  have truncated := modSlot_inOrder ordered (truncateAt_ordered (ordered i))
  refine allocStrips_inOrder i _ truncated ?_
  have few := (ordered i).strips
  have most := Nat.min_le_left Config.maxStations (s.slot i).stationsNeeded
  rw [modSlot_slot_same, (sameShell_truncateAt _).strips]
  omega

theorem completeRecord_inOrder {s : State} (ordered : ZonesInOrder s) (i : Fin Config.slots) :
    ZonesInOrder (s.completeRecord i) := by
  have filled := fillStrips_inOrder ordered i
  have short : ZonesInOrder (if (s.fillStrips i).2 then (s.fillStrips i).1 else (s.fillStrips i).1.poolShort i) := by
    split
    · exact filled
    · exact poolShort_inOrder filled i
  simp only [State.completeRecord]
  generalize (if (s.fillStrips i).2 then (s.fillStrips i).1 else (s.fillStrips i).1.poolShort i) = s1 at short
  have closed := closeAll_inOrder short i
  have ended (u : State) (kept : ZonesInOrder u) :
      ZonesInOrder ((u.appendCompletion i).setTracker ((u.appendCompletion i).tracker.endContext i)) := kept
  refine ended _ ?_
  split
  · exact voidRecord_inOrder closed i
  · exact finishRecord_inOrder closed i

/-! ## Passages -/

theorem advanceContext_inOrder {s : State} (ordered : ZonesInOrder s) (c : Context) :
    ZonesInOrder (s.advanceContext c) := by
  have closed : ZonesInOrder (s.closeBehind c.slot (s.rearDistance c)) :=
    modSlot_inOrder ordered (closeStrips_ordered (ordered c.slot) _ _)
  simp only [State.advanceContext]
  split
  · exact completeRecord_inOrder closed _
  · exact closed

theorem stallRecord_inOrder {s : State} (ordered : ZonesInOrder s) (c : Context) : ZonesInOrder (s.stallRecord c) :=
  voidRecord_inOrder (closeAll_inOrder (flagSlot_inOrder ordered c.slot .stalled) c.slot) c.slot

theorem stallAll_inOrder {s : State} (ordered : ZonesInOrder s) : ZonesInOrder s.stallAll :=
  foldl_contexts_keeps (P := ZonesInOrder) (fun _ c kept => stallRecord_inOrder kept c) s.tracker.contexts ordered

theorem flagBound_inOrder {s : State} (ordered : ZonesInOrder s) (k : HistoryFlag) : ZonesInOrder (s.flagBound k) :=
  foldl_contexts_keeps (P := ZonesInOrder) (f := fun u c => u.modSlot c.slot fun r => r.flag k)
    (fun _ c kept => flagSlot_inOrder kept c.slot k) _ ordered

theorem makeRoom_inOrder {s : State} (ordered : ZonesInOrder s) : ZonesInOrder s.makeRoom := by
  unfold State.makeRoom
  split
  · exact completeRecord_inOrder (flagSlot_inOrder ordered _ .cutShort) _
  · exact ordered

theorem seekRecord_inOrder {s : State} (ordered : ZonesInOrder s) : ZonesInOrder s.seekRecord.1 := by
  unfold State.seekRecord
  split
  · rename_i i rest _
    have dequeued : ZonesInOrder { s with armQueue := rest } := ordered
    exact modSlot_inOrder_congr (f := fun r => { r with state := .measuring }) dequeued rfl rfl
  · split
    · split
      · rename_i i t taken
        have kept := allocSlot_keeps evict_inOrder ordered taken
        exact refUp_inOrder (modSlot_inOrder kept (made_ordered _ _ _ _ _)) _
      · exact ordered
    · exact ordered

theorem litEdge_inOrder {s t : State} (ordered : ZonesInOrder s) (next : execLitEdge s = .next t) : ZonesInOrder t := by
  obtain rfl := Host.Outcome.next.inj next
  split
  · have lit : ZonesInOrder (s.setTracker (s.tracker.takeEdge .lit)) := ordered
    exact seekRecord_inOrder (makeRoom_inOrder lit)
  · exact ordered

theorem departure_inOrder {s : State} (ordered : ZonesInOrder s) (edge : Word) : ZonesInOrder (s.departure edge) := by
  unfold State.departure
  split
  · rename_i c _
    have finished (u : State) (length : Option Nat) (kept : ZonesInOrder u) :
        ZonesInOrder (u.modSlot c.slot fun r => { r with state := .finishing, length }) :=
      modSlot_inOrder_congr kept rfl rfl
    exact finished _ _ ordered
  · exact ordered

theorem darkEdge_inOrder {s t : State} (ordered : ZonesInOrder s) (next : execDarkEdge s = .next t) :
    ZonesInOrder t := by
  obtain rfl := Host.Outcome.next.inj next
  split
  · have dark : ZonesInOrder (s.setTracker (s.tracker.takeEdge .dark)) := ordered
    exact departure_inOrder dark _
  · exact ordered

theorem spinTimeout_inOrder {s t : State} (ordered : ZonesInOrder s) (next : execSpinTimeout s = .next t) :
    ZonesInOrder t := by
  obtain rfl := Host.Outcome.next.inj next
  split
  · have lost : ZonesInOrder (s.setTracker { s.tracker with spin := .unsynced, spinTimer := .stopped }) := ordered
    simp only [State.loseSpin]
    split
    · exact lost
    · exact flagBound_inOrder lost _
  · exact ordered

theorem silenceTimeout_inOrder {s t : State} {h : Fin Config.heads} (ordered : ZonesInOrder s)
    (next : execSilenceTimeout h s = .next t) : ZonesInOrder t := by
  obtain rfl := Host.Outcome.next.inj next
  split
  · have silent : ZonesInOrder (s.setHead h { s.head h with state := .silent, silenceTimer := .stopped }) := ordered
    unfold State.fallSilent
    split
    · exact silent
    · exact flagBound_inOrder silent _
  · exact ordered

/-! ## Shots -/

theorem reject_inOrder {s : State} (ordered : ZonesInOrder s) (i : Fin Config.slots) (station : Nat)
    (sector : Fin Config.sectors) : ZonesInOrder (s.reject i station sector) :=
  modSlot_inOrder_congr ordered (by simp) (by rw [rejectShot_eq])

theorem convert_inOrder {s : State} (ordered : ZonesInOrder s) (h : Fin Config.heads) (rep : Report)
    (i : Fin Config.slots) (station : Nat) (sector : Fin Config.sectors) (cls : ShotClass) :
    ZonesInOrder (s.convert h rep i station sector cls) := by
  have taken (m : MaterialFields) : ZonesInOrder (s.modSlot i fun r => r.tempTaken m rep) :=
    modSlot_inOrder_congr ordered (by rw [tempTaken_eq]) (by rw [tempTaken_eq])
  have counted (m : MaterialFields) (c : HeadCounter) :
      ZonesInOrder ((s.modSlot i fun r => r.tempTaken m rep).countHead h c) := taken m
  simp only [State.convert]
  split
  · exact reject_inOrder (counted _ _) _ _ _
  · split
    · exact reject_inOrder (taken _) _ _ _
    · exact modSlot_inOrder_congr (taken _) (by simp) (by rw [acceptShot_eq])

theorem classify_inOrder {s : State} (ordered : ZonesInOrder s) (h : Fin Config.heads) (rep : Report)
    (i : Fin Config.slots) (station : Nat) (sector : Fin Config.sectors) :
    ZonesInOrder (s.classify h rep i station sector) := by
  have counted : ZonesInOrder (s.countHead h ((s.material (s.slot i).shell.grade).read.classify rep).counter) := ordered
  simp only [State.classify]
  split
  · exact reject_inOrder counted _ _ _
  · exact convert_inOrder counted _ _ _ _ _ _

/-- A placed report takes strips up to its station alone, which is below 1,024 (R64, R66). -/
theorem place_inOrder {s : State} (ordered : ZonesInOrder s) (h : Fin Config.heads) (rep : Report)
    (i : Fin Config.slots) (generation : Byte) (station : Nat) (sector : Fin Config.sectors) :
    ZonesInOrder (s.place h rep i generation station sector) := by
  have counted (c : HeadCounter) : ZonesInOrder (s.countHead h c) := ordered
  simp only [State.place]
  split
  · exact counted _
  · split
    · exact flagSlot_inOrder (counted _) i _
    · rename_i near
      split
      · split
        · exact modSlot_inOrder_congr (f := fun r => { r with late := countUp r.late }) (counted _) rfl rfl
        · exact classify_inOrder ordered h rep i _ _
      · have filled : ZonesInOrder (State.allocStrips (station + 1 - (s.slot i).strips.length) i s).1 := by
          have few := (ordered i).strips
          exact allocStrips_inOrder i _ ordered (by omega)
        split
        · exact classify_inOrder filled h rep i _ _
        · have pooled : ZonesInOrder
              ((State.allocStrips (station + 1 - (s.slot i).strips.length) i s).1.countHead h .pool) := filled
          exact poolShort_inOrder pooled i

theorem shotService_inOrder {s : State} (ordered : ZonesInOrder s) : ZonesInOrder s.shotService := by
  unfold State.shotService
  split
  · exact ordered
  · rename_i h _
    split
    · exact ordered
    · rename_i rep rest _
      have taken : ZonesInOrder (s.takeReport h rest) := ordered
      split
      · exact taken
      · exact place_inOrder taken h rep _ _ _ _

/-! ## Every step -/

theorem restart_inOrder (s : State) : ZonesInOrder s.restart := by
  intro i
  have free : s.restart.slot i = .free 0 := by simp [State.slot, State.restart]
  exact free ▸ zonesOrdered_free 0

theorem exec_inOrder (i : Instr) (s t : State) (ordered : ZonesInOrder s) (next : exec i s = .next t) :
    ZonesInOrder t := by
  have safe := inOrder_requestSafe
  by_cases touches : touchesTable i = false
  · exact (exec_sameTable touches next).inOrder ordered
  · cases i with
    | arm h id f => exact answering_keeps safe (arm_inOrder id f) ordered next
    | disarm h ref => exact answering_keeps safe (withRecord_keeps fun i u _ => disarm_inOrder i u) ordered next
    | amend h ref f => exact answering_keeps safe (withRecord_keeps fun i u _ => amend_inOrder f i u) ordered next
    | materialWrite h entry f =>
      exact answering_keeps safe (fun u => inOrder_of_slots (materialWrite_slots entry f u)) ordered next
    | materialClear h entry =>
      exact answering_keeps safe (fun u => inOrder_of_slots (materialClear_slots entry u)) ordered next
    | rejudge h ref => exact answering_keeps safe (withRecord_keeps fun i u _ => rejudge_inOrder i u) ordered next
    | claim h ref => exact answering_keeps safe (withRecord_keeps fun i u _ => claim_inOrder h.source i u) ordered next
    | release h ref =>
      exact answering_keeps safe (withRecord_keeps fun i u _ => release_inOrder h.source i u) ordered next
    | retireNow h ref octet =>
      exact answering_keeps safe (withRecord_keeps fun i u _ => retire_inOrder (nowOption octet) i u) ordered next
    | retireDeferred h ref =>
      exact answering_keeps safe (withRecord_keeps fun i u _ => retire_inOrder .deferred i u) ordered next
    | retireForce h ref =>
      exact answering_keeps safe (withRecord_keeps fun i u _ => retire_inOrder .force i u) ordered next
    | restart h => exact answering_keeps safe (fun u _ => restart_inOrder u) ordered next
    | litEdge => exact litEdge_inOrder ordered next
    | darkEdge => exact darkEdge_inOrder ordered next
    | advancePulse =>
      have pulsed : ZonesInOrder (s.setTracker s.tracker.pulse) := ordered
      exact Host.Outcome.next.inj next ▸
        foldl_contexts_keeps (P := ZonesInOrder) (fun _ c kept => advanceContext_inOrder kept c) _ pulsed
    | stall =>
      obtain rfl := Host.Outcome.next.inj next
      split
      · exact stallAll_inOrder ordered
      · exact ordered
    | spinTimeout => exact spinTimeout_inOrder ordered next
    | silenceTimeout port => exact silenceTimeout_inOrder ordered next
    | shotService => exact Host.Outcome.next.inj next ▸ shotService_inOrder ordered
    | rejudgeStep => exact Host.Outcome.next.inj next ▸ rejudgeStep_inOrder ordered
    | powerOn straps => exact Host.Outcome.next.inj next ▸ applySupply_zones s straps
    | _ => exact absurd rfl touches

/-- Settles O57: only an offered candidate, the trimming at a verdict and the clearing at a rejudge change a zone list, and each leaves it in order. -/
theorem stepKeepsZonesInOrder : Obligations.StepKeepsZonesInOrder := by
  intro s t ordered next
  exact step_keeps (fun u rest kept => (sameTable_pending u rest).inOrder kept)
    (fun u b rest kept => (sameTable_ringBit u b rest).inOrder kept) exec_inOrder ordered next

end Sys2Proof.Proofs

/-! SUPPORT. The outcome of a cell against its limits, and the verdict of a record by its longest sound run. -/

namespace Sys2Proof.Proofs

open Sys2Proof.Machine Sys2Proof.Laws

/-! ## The outcome of a cell -/

/-- The outcome in EXTREME mode: THIN by the least thickness, THICK by the greatest, or both (R118). -/
theorem judgeCell_extreme {l : LimitSet} (extreme : l.controls.getLsbD 0 = true) (nominal : Nat) (c : Cell) :
    l.judgeCell nominal c =
      if c.min < l.lowerLimit nominal then if l.upperLimit nominal < c.max then .thinThick else .thin
      else if l.upperLimit nominal < c.max then .thick else .pass := if_pos extreme

/-- The outcome in MEAN mode (R118). -/
theorem judgeCell_mean {l : LimitSet} (mean : l.controls.getLsbD 0 = false) (nominal : Nat) (c : Cell) :
    l.judgeCell nominal c =
      if c.mean < l.lowerLimit nominal then .thin else if l.upperLimit nominal < c.mean then .thick else .pass :=
  if_neg (Bool.eq_false_iff.mp mean)

/-- The limits of a nominal wall lie on both sides of it. -/
theorem lowerLimit_le_upperLimit (l : LimitSet) (nominal : Nat) : l.lowerLimit nominal ≤ l.upperLimit nominal :=
  (Nat.sub_le _ _).trans (Nat.le_add_right _ _)

/-- Settles O34: the two modes, each by the sides of the limits on which its measure lies. -/
theorem limitsJudgeCells : Obligations.LimitsJudgeCells := by
  intro l nominal c lower upper
  refine ⟨rfl, rfl, fun extreme => ?_, fun mean => ?_⟩
  · rw [judgeCell_extreme extreme]
    refine ⟨fun low high => ?_, fun low high => ?_, fun low high => ?_, fun low high => ?_⟩
    · exact (if_neg (Nat.not_lt.mpr low)).trans (if_neg (Nat.not_lt.mpr high))
    · exact (if_pos low).trans (if_neg (Nat.not_lt.mpr high))
    · exact (if_neg (Nat.not_lt.mpr low)).trans (if_pos high)
    · exact (if_pos low).trans (if_pos high)
  · rw [judgeCell_mean mean]
    refine ⟨by split_ifs <;> decide, fun low high => ?_, fun low => if_pos low, fun high => ?_⟩
    · exact (if_neg (Nat.not_lt.mpr low)).trans (if_neg (Nat.not_lt.mpr high))
    · have low : lower ≤ c.sum / c.accepted := (lowerLimit_le_upperLimit l nominal).trans (Nat.le_of_lt high)
      exact (if_neg (Nat.not_lt.mpr low)).trans (if_pos high)

/-! ## Sound runs -/

/-- The `length` stations from `start` on are in no zone of the list. -/
def SoundRun (zones : List Zone) (start length : Nat) : Prop :=
  ∀ k, start ≤ k → k < start + length → inZones zones k = false

theorem inZones_eq_false {zones : List Zone} {k : Nat} :
    inZones zones k = false ↔ ∀ z ∈ zones, k < z.first ∨ z.last < k := by
  simp only [inZones, List.any_eq_false, decide_eq_true_eq]
  exact forall₂_congr fun z _ => by omega

/-- The walk over `n` stations from `k` finds no run shorter than the best so far, nor than any sound run that begins in the run before `k` or later and ends within the walk. -/
theorem le_longestSound {zones : List Zone} : ∀ (n k run best : Nat), run ≤ best →
    best ≤ longestSound zones n k run best ∧ ∀ start length, SoundRun zones start length → k ≤ start + run →
      start + length ≤ k + n → length ≤ longestSound zones n k run best
  | 0, k, run, best, kept => ⟨Nat.le_refl _, fun start length _ late within => by rw [longestSound]; omega⟩
  | n + 1, k, run, best, kept => by
    rw [longestSound]
    split_ifs with zoned
    · obtain ⟨most, longer⟩ := le_longestSound (zones := zones) n (k + 1) 0 best (Nat.zero_le _)
      refine ⟨most, fun start length sound late within => ?_⟩
      by_cases before : start + length ≤ k
      · omega
      · have after : k < start := by
          by_contra begun
          exact absurd zoned (Bool.eq_false_iff.mp (sound k (by omega) (by omega)))
        exact longer start length sound after (by omega)
    · obtain ⟨most, longer⟩ := le_longestSound (zones := zones) n (k + 1) (run + 1) (max best (run + 1))
        (Nat.le_max_right _ _)
      exact ⟨(Nat.le_max_left _ _).trans most, fun start length sound late within =>
        longer start length sound (by omega) (by omega)⟩

/-- What the walk finds is the best so far or the length of a sound run that begins in the run before `k` or later and ends within the walk. -/
theorem longestSound_found {zones : List Zone} : ∀ (n k run best : Nat), run ≤ k → SoundRun zones (k - run) run →
    longestSound zones n k run best = best ∨ ∃ start, k ≤ start + run ∧
      start + longestSound zones n k run best ≤ k + n ∧ SoundRun zones start (longestSound zones n k run best)
  | 0, k, run, best, _, _ => .inl rfl
  | n + 1, k, run, best, back, sound => by
    rw [longestSound]
    split_ifs with zoned
    · have none : SoundRun zones (k + 1 - 0) 0 := fun j _ _ => by omega
      rcases longestSound_found n (k + 1) 0 best (Nat.zero_le _) none with same | ⟨start, late, within, found⟩
      · exact .inl same
      · exact .inr ⟨start, by omega, by omega, found⟩
    · have longer : SoundRun zones (k + 1 - (run + 1)) (run + 1) := by
        intro j late within
        by_cases here : j = k
        · exact here ▸ Bool.eq_false_iff.mpr zoned
        · exact sound j (by omega) (by omega)
      rcases longestSound_found n (k + 1) (run + 1) (max best (run + 1)) (by omega) longer with
        same | ⟨start, late, within, found⟩
      · rw [same]
        rcases Nat.le_total (run + 1) best with kept | longest
        · exact .inl (Nat.max_eq_left kept)
        · rw [Nat.max_eq_right longest]
          exact .inr ⟨k - run, by omega, by omega, by simpa using longer⟩
      · exact .inr ⟨start, by omega, by omega, found⟩

/-- No sound run of judged stations is longer than the longest (R132). -/
theorem le_soundRun {r : Record} {start length : Nat} (from_crop : r.shell.leadCrop ≤ start)
    (inside : start + length ≤ r.shell.leadCrop + r.judgedStations.toNat) (sound : SoundRun r.zones start length) :
    length ≤ r.soundRun :=
  (le_longestSound _ _ 0 0 (Nat.le_refl 0)).2 start length sound from_crop inside

/-- A longest sound run that is not empty is a run of judged stations (R132). -/
theorem soundRun_found {r : Record} (some : 1 ≤ r.soundRun) : ∃ start, r.shell.leadCrop ≤ start ∧
    start + r.soundRun ≤ r.shell.leadCrop + r.judgedStations.toNat ∧ SoundRun r.zones start r.soundRun := by
  have none : SoundRun r.zones (r.shell.leadCrop - 0) 0 := fun j _ _ => by omega
  rcases longestSound_found r.judgedStations.toNat r.shell.leadCrop 0 0 (Nat.zero_le _) none with empty | found
  · exact absurd some (by rw [Record.soundRun, empty]; decide)
  · exact found

/-! ## Verdicts -/

/-- The record whose zone list has been trimmed (R131). -/
def trimmedRecord (r : Record) : Record := { r with zones := r.trimmedZones }

/-- A verdict trims the zones, is given by the trimmed list, and marks a record without judged stations (R131, R132). -/
theorem giveVerdict_fields (r : Record) (l : LimitSet) : r.giveVerdict l = { r with
    zones := r.trimmedZones, verdict := (trimmedRecord r).verdictBy l
    history := if r.judgedStations < 1 then r.history ||| 0x100#10 else r.history } := by
  unfold Record.giveVerdict
  dsimp only
  split <;> rfl

/-- Some sound run is as long as the set asks exactly when the longest one is. -/
theorem longSound_iff {r : Record} {l : LimitSet} :
    (1 ≤ r.soundRun ∧ l.minGood ≤ r.soundRun * r.shell.pitch) ↔
      ∃ start length, (r.shell.leadCrop ≤ start ∧
        start + length ≤ r.shell.leadCrop + r.judgedStations.toNat ∧ SoundRun r.zones start length) ∧
        1 ≤ length ∧ l.minGood ≤ length * r.shell.pitch := by
  constructor
  · rintro ⟨some, long⟩
    obtain ⟨start, found⟩ := soundRun_found some
    exact ⟨start, r.soundRun, found, some, long⟩
  · rintro ⟨start, length, ⟨from_crop, inside, sound⟩, some, long⟩
    have most := le_soundRun from_crop inside sound
    exact ⟨some.trans most, long.trans (Nat.mul_le_mul_right _ most)⟩

/-- Settles O37: the verdict of the trimmed record, and the longest sound run that decides CUT. -/
theorem verdictsFollowZones : Obligations.VerdictsFollowZones := by
  intro r l bound judged zones sound long
  have enough (some : 1 ≤ judged) :
      (1 ≤ (trimmedRecord r).soundRun ∧ l.minGood ≤ (trimmedRecord r).soundRun * r.shell.pitch) ↔ long := by
    refine longSound_iff.trans (exists₂_congr fun start length => and_congr_left fun _ => ?_)
    refine and_congr Iff.rfl (and_congr ?_ ?_)
    · have count : (trimmedRecord r).judgedStations = judged := rfl
      have crop : (trimmedRecord r).shell = r.shell := rfl
      rw [count, crop]
      omega
    · exact forall₃_congr fun k _ _ => inZones_eq_false
  refine ⟨_, giveVerdict_fields r l, fun none => if_pos none, fun some empty => ?_, fun some zoned runs => ?_,
    fun some zoned short => ?_⟩
  · exact (if_neg (Int.not_lt.mpr some)).trans (if_pos empty)
  · exact (if_neg (Int.not_lt.mpr some)).trans ((if_neg zoned).trans (if_pos ((enough some).mpr runs)))
  · exact (if_neg (Int.not_lt.mpr some)).trans ((if_neg zoned).trans (if_neg fun runs => short ((enough some).mp runs)))

end Sys2Proof.Proofs

/-! SUPPORT. LIMIT WRITE and LIMIT READ; REJUDGE and the steps of a rejudge run. -/

namespace Sys2Proof.Proofs

open Sys2Proof.Machine Sys2Proof.Laws

/-! ## Limit sets -/

theorem limitOf_some {b : Byte} {k : Fin Config.limitSets} : limitOf b = some k ↔ b.toNat = k.val := by
  unfold limitOf
  split
  · simp [Fin.ext_iff]
  · rename_i beyond
    have := k.isLt
    simp
    omega

theorem limitOf_none {b : Byte} : limitOf b = none ↔ 3 < b.toNat := by
  unfold limitOf
  have sets : Config.limitSets = 4 := rfl
  split <;> simp <;> omega

/-- The check of a selected value of LIMIT WRITE. -/
theorem firstBad_withinIf {w : Nat} (n lo hi : Nat) (v : Option (BitVec w)) (rest : List Bool) :
    firstBad n (withinIf lo hi v :: rest) =
      if (v.any fun v => decide (v.toNat < lo ∨ hi < v.toNat)) = true then some n else firstBad (n + 1) rest := by
  cases v with
  | none => exact firstBad_true rfl rest
  | some x =>
    simp only [Option.any_some, decide_eq_true_eq]
    exact firstBad_within n lo hi x.toNat rest

/-- The number of the first mask of LIMIT WRITE that leaves the four controls, else of its first value out of range (R114). -/
def limitFault (f : LimitFields) : Option Nat :=
  (LimitFields.badMask f).orElse fun _ => firstBad 1 (LimitFields.checks f)

theorem limitFault_eq (f : LimitFields) : limitFault f =
      if 16 ≤ f.keep.toNat then some 8
      else if 16 ≤ f.put.toNat then some 9
      else if (f.lower.any fun v => decide (500 < v.toNat)) = true then some 1
      else if (f.upper.any fun v => decide (500 < v.toNat)) = true then some 2
      else if (f.ecc.any fun v => decide (500 < v.toNat)) = true then some 3
      else if (f.settle.any fun v => decide (15 < v.toNat)) = true then some 4
      else if (f.eccCells.any fun v => decide (v.toNat < 3 ∨ 12 < v.toNat)) = true then some 5
      else if (f.guard.any fun v => decide (7 < v.toNat)) = true then some 6
      else if (f.minGood.any fun v => decide (20000 < v.toNat)) = true then some 7 else none := by
  simp only [limitFault, LimitFields.badMask, LimitFields.checks, firstBad_withinIf, Nat.not_lt_zero, false_or]
  split
  · rfl
  · split <;> rfl

/-- The selected values and masks in a limit set (R114). -/
theorem written_eq (l : LimitSet) (f : LimitFields) : l.written f =
    { lower := (f.lower.map BitVec.toNat).getD l.lower, upper := (f.upper.map BitVec.toNat).getD l.upper
      eccLimit := (f.ecc.map BitVec.toNat).getD l.eccLimit, settle := (f.settle.map BitVec.toNat).getD l.settle
      eccCells := (f.eccCells.map BitVec.toNat).getD l.eccCells, guard := (f.guard.map BitVec.toNat).getD l.guard
      minGood := (f.minGood.map BitVec.toNat).getD l.minGood
      controls := (l.controls &&& f.keep.setWidth 4) ||| f.put.setWidth 4 } := by
  simp only [LimitSet.written, orHeld_eq]

theorem limitWrite_unnamed {n : Byte} (high : 3 < n.toNat) (f : LimitFields) (s : State) :
    limitWrite n f s = (s, .refuse .range) := by
  rw [limitWrite, limitOf_none.mpr high]

theorem limitRead_unnamed {n : Byte} (high : 3 < n.toNat) (s : State) : limitRead n s = .refuse .range := by
  rw [limitRead, limitOf_none.mpr high]

section Named

variable {n : Byte} {k : Fin Config.limitSets} (names : n.toNat = k.val) (s : State)
include names

theorem limitWrite_bad {f : LimitFields} {field : Nat} (bad : limitFault f = some field) :
    limitWrite n f s = (s, .refuse .range field (s.limit k).octets) := by
  unfold limitFault at bad
  simp only [limitWrite, limitOf_some.mpr names, bad]

theorem limitWrite_good {f : LimitFields} (good : limitFault f = none) :
    limitWrite n f s = (s.setLimit k ((s.limit k).written f), .done ((s.limit k).written f).octets) := by
  unfold limitFault at good
  simp only [limitWrite, limitOf_some.mpr names, good]

theorem limitRead_named : limitRead n s = .done (s.limit k).octets := by
  rw [limitRead, limitOf_some.mpr names]

end Named

/-- What follows from the first fault of a chain of checks, check by check. -/
theorem elim_if {α : Type} (c : Prop) [Decidable c] (field : Nat) (rest : Option Nat) (good : α) (bad : Nat → α) :
    (if c then some field else rest).elim good bad = if c then bad field else rest.elim good bad := by
  split <;> rfl

/-- Settles O39: a set number that names no set, then the first check that fails, or the set written. -/
theorem limitWriteReplacesSelected : Obligations.LimitWriteReplacesSelected := by
  intro s h n f ok body
  refine ⟨fun high => answering_refused ok (limitWrite_unnamed high f _), fun k names => ?_⟩
  intro l
  have answers : exec (.limitWrite h n f) s = .next ((limitFault f).elim
      ((s.frameIn.setLimit k (l.written f)).answered h 0x40 .done (body (l.written f)))
      fun field => s.frameIn.answered h 0x40 .range (BitVec.ofNat 8 field :: body l)) := by
    cases fault : limitFault f with
    | some field => exact answering_ran ok (limitWrite_bad names s.frameIn fault) rfl
    | none => exact answering_ran ok (limitWrite_good names s.frameIn fault) rfl
  rw [answers, limitFault_eq, written_eq]
  simp only [elim_if, Option.elim_none]
  rfl

/-- Settles O40: LIMIT READ by the set that the number names. -/
theorem limitReadAnswersSet : Obligations.LimitReadAnswersSet := by
  intro s h n ok
  refine ⟨fun high => ?_, fun k names => ?_⟩
  · exact answering_refused ok (congrArg (Prod.mk s.frameIn) (limitRead_unnamed high s.frameIn))
  · exact answering_ran ok (run := reading (limitRead n))
      (congrArg (Prod.mk s.frameIn) (limitRead_named names s.frameIn)) rfl

/-! ## REJUDGE -/

theorem finished_iff (r : Record) : r.finished = true ↔ r.state = .complete ∨ r.state = .void := decide_eq_true_iff

theorem rejudge_state {i : Fin Config.slots} {s : State}
    (bad : ¬(s.slot i).finished = true ∨ (s.slot i).retirePending = true) : rejudge i s = (s, .refuse .state) := by
  rcases bad with unfinished | waits
  · rw [rejudge, Bool.eq_false_iff.mpr unfinished]
    rfl
  · simp only [rejudge, waits, if_true, ite_self]

section Passing

variable {i : Fin Config.slots} {s : State} (finished : (s.slot i).finished = true)
  (stays : (s.slot i).retirePending = false)
include finished stays

theorem rejudge_busy (busy : s.engine ≠ none) : rejudge i s = (s, .refuse .busy) := by
  rw [rejudge, finished, stays, Option.isSome_iff_ne_none.mpr busy]
  rfl

theorem rejudge_starts (idle : s.engine = none) {t : State} (starts : s.startRejudge i = t) :
    rejudge i s = (t, { outcome := .started, body := [] }) := by
  rw [rejudge, finished, stays, idle, starts]
  rfl

end Passing

/-- The subject of a notice about a record: its id, or its slot and generation (R185). -/
def Record.subject (r : Record) (i : Fin Config.slots) : Subject :=
  match r.shellId with
  | some id => .shell id
  | none => .slot i r.generation

/-- The record at the end of its rejudge run: a COMPLETE one has its verdict (R138). -/
def Record.rejudged (r : Record) (copy : LimitSet) : Record :=
  { (if r.state = .complete then r.giveVerdict copy else r) with rejudging := false }

/-- The end of a rejudge run: the record's verdict, the engine idle, and the notice (R138). -/
theorem endRejudge_eq (s : State) (run : RejudgeRun) : s.endRejudge run =
    State.raise { s.setSlot run.slot (Record.rejudged (s.slot run.slot) run.copy) with engine := none } .rejudgeDone
      (Record.subject (s.slot run.slot) run.slot) := rfl

/-- A verdict does not see the REJUDGING mark. -/
theorem rejudged_marked (r : Record) (copy : LimitSet) :
    Record.rejudged { r with rejudging := true } copy = Record.rejudged r copy := by
  unfold Record.rejudged
  dsimp only
  split
  · rw [giveVerdict_fields, giveVerdict_fields]
    rfl
  · rfl

/-- The record at the start of its rejudge run, without derived flags and zones (R136). -/
def Record.cleared (r : Record) : Record := { r with derived := 0, zones := [] }

theorem startRejudge_strips {s : State} {i : Fin Config.slots} (some_strips : (s.slot i).strips ≠ []) :
    s.startRejudge i =
      State.setSlot { s with engine := some { slot := i, copy := s.limit (s.slot i).shell.limitSet, reached := 0 } } i
        { Record.cleared (s.slot i) with rejudging := true } := if_neg some_strips

/-- A record without strips ends its run at once (R136, R138). -/
theorem startRejudge_stripless {s : State} {i : Fin Config.slots} (idle : s.engine = none)
    (stripless : (s.slot i).strips = []) : s.startRejudge i =
      (s.setSlot i (Record.rejudged (Record.cleared (s.slot i)) (s.limit (s.slot i).shell.limitSet))).raise .rejudgeDone
        (Record.subject (s.slot i) i) := by
  have ended : s.startRejudge i =
      (State.setSlot { s with engine := some { slot := i, copy := s.limit (s.slot i).shell.limitSet, reached := 0 } } i
        { Record.cleared (s.slot i) with rejudging := true }).endRejudge
          { slot := i, copy := s.limit (s.slot i).shell.limitSet, reached := 0 } := if_pos stripless
  have quiet : { s with engine := none } = s := by rw [← idle]
  rw [ended, endRejudge_eq, setSlot_slot_same, setSlot_setSlot, rejudged_marked]
  show State.raise (State.setSlot { s with engine := none } i _) _ _ = _
  rw [quiet]
  rfl

/-! ## The steps of a rejudge run -/

theorem rejudgeStep_idle {s : State} (idle : s.engine = none) : s.rejudgeStep = s := by rw [State.rejudgeStep, idle]

theorem rejudgeStep_ends {s : State} {run : RejudgeRun} (running : s.engine = some run)
    (walked : (s.slot run.slot).strips.length ≤ run.reached) : s.rejudgeStep = s.endRejudge run := by
  rw [State.rejudgeStep, running]
  exact if_neg (Nat.not_lt.mpr walked)

/-- A strip step judges the strip at the station reached with the outcomes of its SETTLED cells, and the station advances (R137). -/
theorem rejudgeStep_judges {s : State} {run : RejudgeRun} {st : Strip} (running : s.engine = some run)
    (held : (s.slot run.slot).strips[run.reached]? = some st) : s.rejudgeStep =
      State.setSlot { s with engine := some { run with reached := run.reached + 1 } } run.slot
        ((s.slot run.slot).judgeStrip run.copy run.reached
          (st.mapCells (run.copy.giveOutcome (s.slot run.slot).shell.nominal))) := by
  have judged : (s.slot run.slot).rejudgeStrip run.copy run.reached = (s.slot run.slot).judgeStrip run.copy run.reached
      (st.mapCells (run.copy.giveOutcome (s.slot run.slot).shell.nominal)) := by rw [Record.rejudgeStrip, held]
  rw [State.rejudgeStep, running, ← judged]
  exact if_pos (List.getElem?_eq_some_iff.mp held).1

/-- Settles O43: the checks of REJUDGE in order and the two ways a run starts; then the engine idle, at a strip, and past the last one. -/
theorem rejudgeRunsToItsEnd : Obligations.RejudgeRunsToItsEnd := by
  refine ⟨fun s h ref i ok found => ?_, fun s => ⟨fun idle => ?_, fun run running => ⟨fun st held => ?_, fun walked => ?_⟩⟩⟩
  · have runs {t : State} {a : Answer} (ran : rejudge i s.frameIn = (t, a)) := answering_ran ok
      ((withRecord_ok found rejudge).trans ran)
    have passes (fin : (s.slot i).state = .complete ∨ (s.slot i).state = .void) : (s.frameIn.slot i).finished = true :=
      (finished_iff _).mpr fin
    refine ⟨fun bad => ?_, fun fin stays busy => ?_, fun fin stays idle strips => ?_, fun fin stays idle stripless => ?_⟩
    · exact runs (rejudge_state (bad.imp_left fun unfinished fin => unfinished ((finished_iff _).mp fin))) rfl
    · exact runs (rejudge_busy (passes fin) stays busy) rfl
    · exact runs (rejudge_starts (passes fin) stays idle (startRejudge_strips strips)) rfl
    · exact runs (rejudge_starts (passes fin) stays idle (startRejudge_stripless idle stripless)) rfl
  · exact congrArg Host.Outcome.next (rejudgeStep_idle idle)
  · exact ⟨_, fun k => mapCells_cell st _ k, congrArg Host.Outcome.next (rejudgeStep_judges running held)⟩
  · exact congrArg Host.Outcome.next ((rejudgeStep_ends running walked).trans (endRejudge_eq s run))

end Sys2Proof.Proofs

/-! SUPPORT. CLAIM and RELEASE; the three forms of RETIRE. -/

namespace Sys2Proof.Proofs

open Sys2Proof.Machine Sys2Proof.Laws

/-! ## Commands on one record -/

/-- An admitted command on the record that its reference names, when the command leaves the ring port alone. -/
theorem answering_record {s t : State} {h : Header} {row : RequestRow} {ref : RecordRef} {i : Fin Config.slots}
    (ok : s.Admits h row) (found : s.resolve ref = .ok i) {a : Answer} {run : Fin Config.slots → State → State × Answer}
    (ran : run i s.frameIn = (t, a)) (ring : t.ring = s.frameIn.ring) :
    answering h row (withRecord ref run) s = .next (t.answered h row.code a.outcome a.body a.effect) :=
  answering_ran ok ((withRecord_ok found run).trans ran) ring

/-- The body that CLAIM, RELEASE and RETIRE share, part by part (R204). -/
theorem holdOctets_eq (i : Fin Config.slots) (generation : Byte) (own : Nat) (claims : List Byte) :
    holdOctets i generation own claims = le 1 i ++ [generation] ++ le 1 own ++ le 1 claims.length ++ claims ++
      List.replicate (4 - claims.length) 0 := by
  simp only [holdOctets, claimOctets, List.append_assoc]
  rfl

/-- The body with the command's own octet given as an octet. -/
theorem holdOctets_indication (i : Fin Config.slots) (generation own : Byte) (claims : List Byte) :
    holdOctets i generation own.toNat claims = le 1 i ++ [generation, own] ++ le 1 claims.length ++ claims ++
      List.replicate (4 - claims.length) 0 := by
  simp [holdOctets_eq, le]

/-! ## CLAIM -/

section Claim

variable {source : Byte} {i : Fin Config.slots} {s : State}

theorem claim_pending (waits : (s.slot i).retirePending = true) : claim source i s =
    (s, .refuse .state 0 (holdOctets i (s.slot i).generation 0 (s.slot i).claims)) := if_pos waits

variable (stays : ¬(s.slot i).retirePending = true)
include stays

theorem claim_held (held : source ∈ (s.slot i).claims) : claim source i s =
    (s, .done (holdOctets i (s.slot i).generation 1 (s.slot i).claims)) := (if_neg stays).trans (if_pos held)

theorem claim_full (unheld : source ∉ (s.slot i).claims) (full : Config.claimPlaces ≤ (s.slot i).claims.length) :
    claim source i s = (s, .refuse .full 0 (holdOctets i (s.slot i).generation 0 (s.slot i).claims)) :=
  (if_neg stays).trans ((if_neg unheld).trans (if_pos full))

/-- A new claim joins the tail of a claim list with a place free (R141, R142). -/
theorem claim_joins (unheld : source ∉ (s.slot i).claims) (room : ¬Config.claimPlaces ≤ (s.slot i).claims.length) :
    claim source i s = (s.setSlot i { s.slot i with claims := (s.slot i).claims ++ [source] },
      .done (holdOctets i (s.slot i).generation 0 ((s.slot i).claims ++ [source]))) :=
  (if_neg stays).trans ((if_neg unheld).trans (if_neg room))

end Claim

/-! ## RELEASE -/

section Release

variable {source : Byte} {i : Fin Config.slots} {s : State}

theorem release_unheld (unheld : source ∉ (s.slot i).claims) : release source i s = (s, .refuse .notHeld) :=
  if_pos unheld

variable (held : source ∈ (s.slot i).claims)
include held

/-- The last release of a record with RETIRE_PENDING retires it (R145). -/
theorem release_retires (last : (s.slot i).without source = [] ∧ (s.slot i).retirePending = true) :
    release source i s = (s.freeRecord i, .done (holdOctets i (s.slot i).generation 1 [])) :=
  (if_neg (not_not_intro held)).trans (if_pos last)

theorem release_leaves (more : ¬((s.slot i).without source = [] ∧ (s.slot i).retirePending = true)) :
    release source i s = (s.setSlot i { s.slot i with claims := (s.slot i).without source },
      .done (holdOctets i (s.slot i).generation 0 ((s.slot i).without source))) :=
  (if_neg (not_not_intro held)).trans (if_neg more)

end Release

/-- Settles O44: the checks of CLAIM in order, then those of RELEASE. -/
theorem claimsAreHeldAndReleased : Obligations.ClaimsAreHeldAndReleased := by
  refine ⟨fun s h ref i ok found => ?_, fun s h ref i ok found => ?_⟩
  · show answering h rowClaim (withRecord ref (claim h.source)) s = _
    simp only [← holdOctets_indication]
    split_ifs with waits held full
    · exact answering_record ok found (claim_pending waits) rfl
    · exact answering_record ok found (claim_held waits held) rfl
    · exact answering_record ok found (claim_full waits held full) rfl
    · exact answering_record ok found (claim_joins waits held full) rfl
  · show answering h rowRelease (withRecord ref (release h.source)) s = _
    simp only [← holdOctets_indication]
    split_ifs with held last
    · exact answering_record ok found (release_retires held last) rfl
    · exact answering_record ok found (release_leaves held last) rfl
    · exact answering_record ok found (release_unheld held) rfl

/-! ## RETIRE -/

/-- Only the octet of NOW names an option in a RETIRE_NOW (R146, R199). -/
theorem nowOption_unknown {octet : Byte} (other : octet ≠ 0) : nowOption octet = .unknown := if_neg other

theorem retire_unknown (i : Fin Config.slots) (s : State) : retire .unknown i s = (s, .refuse .range 1) := rfl

theorem retire_force (i : Fin Config.slots) (s : State) : retire .force i s = s.retireFree i :=
  if_pos (Or.inr rfl)

/-- A retirement deferred to the last release: the record is marked, and the reply gives its claims (R149). -/
def retireLater (s : State) (i : Fin Config.slots) : State × Answer :=
  (s.setSlot i { s.slot i with retirePending := true },
    { outcome := .pending, body := holdOctets i (s.slot i).generation 0 (s.slot i).claims })

section Unforced

variable {option : RetireOption} (unforced : option = .now ∨ option = .deferred) {i : Fin Config.slots} {s : State}
include unforced

/-- The table of R146 for NOW and DEFERRED. -/
theorem retire_unforced : retire option i s =
    if (s.slot i).state = .armed then s.retireFree i
    else if (s.slot i).underWay = true then (s, .refuse .state)
    else if (s.slot i).rejudging = true then (s, .refuse .busy)
    else if (s.slot i).claims = [] then s.retireFree i
    else if option = .now then (s, .refuse .held)
    else retireLater s i := by
  rcases unforced with rfl | rfl <;> simp only [retire, reduceCtorEq, or_false, if_false] <;> rfl

theorem retire_armed (armed : (s.slot i).state = .armed) : retire option i s = s.retireFree i :=
  (retire_unforced unforced).trans (if_pos armed)

theorem retire_underWay (underWay : (s.slot i).state = .measuring ∨ (s.slot i).state = .finishing) :
    retire option i s = (s, .refuse .state) := by
  have unarmed : (s.slot i).state ≠ .armed := by rcases underWay with is | is <;> rw [is] <;> decide
  exact (retire_unforced unforced).trans ((if_neg unarmed).trans (if_pos (decide_eq_true underWay)))

variable (finished : (s.slot i).state = .complete ∨ (s.slot i).state = .void)
include finished

/-- A finished record is neither ARMED nor under way: its rejudge run and its claims decide (R148, R149, R153). -/
theorem retire_finished : retire option i s =
    if (s.slot i).rejudging = true then (s, .refuse .busy)
    else if (s.slot i).claims = [] then s.retireFree i
    else if option = .now then (s, .refuse .held)
    else retireLater s i := by
  have unarmed : (s.slot i).state ≠ .armed := by rcases finished with is | is <;> rw [is] <;> decide
  have rests : ¬(s.slot i).underWay = true := fun underWay =>
    Bool.false_ne_true ((underWay_unfinished underWay).symm.trans ((finished_iff _).mpr finished))
  exact (retire_unforced unforced).trans ((if_neg unarmed).trans (if_neg rests))

theorem retire_rejudging (busy : (s.slot i).rejudging = true) : retire option i s = (s, .refuse .busy) :=
  (retire_finished unforced finished).trans (if_pos busy)

variable (idle : (s.slot i).rejudging = false)
include idle

theorem retire_unclaimed (unclaimed : (s.slot i).claims = []) : retire option i s = s.retireFree i :=
  (retire_finished unforced finished).trans ((if_neg (Bool.eq_false_iff.mp idle)).trans (if_pos unclaimed))

theorem retire_claimed (claimed : (s.slot i).claims ≠ []) : retire option i s =
    if option = .now then (s, .refuse .held) else retireLater s i :=
  (retire_finished unforced finished).trans ((if_neg (Bool.eq_false_iff.mp idle)).trans (if_neg claimed))

end Unforced

/-- Settles O45: FORCE and an unknown option, then NOW and DEFERRED row by row of the table of R146. -/
theorem retireFreesRecords : Obligations.RetireFreesRecords := by
  intro s h ref i ok found
  simp only [← holdOctets_eq]
  have frees {option : RetireOption} (ran : retire option i s.frameIn = s.frameIn.retireFree i) :=
    answering_record ok found ran rfl
  have refuses {option : RetireOption} {o : ReplyCode} {field : Nat}
      (ran : retire option i s.frameIn = (s.frameIn, .refuse o field)) := answering_record ok found ran rfl
  have now : RetireOption.now = .now ∨ RetireOption.now = .deferred := .inl rfl
  have deferred : RetireOption.deferred = .now ∨ RetireOption.deferred = .deferred := .inr rfl
  refine ⟨frees (retire_force i _), fun octet other => ?_, fun armed => ?_, fun underWay => ?_, fun finished busy => ?_,
    fun finished idle unclaimed => ?_, fun finished idle claimed => ?_⟩
  · exact refuses (option := nowOption octet) (nowOption_unknown other ▸ retire_unknown i _)
  · exact ⟨frees (retire_armed now armed), frees (retire_armed deferred armed)⟩
  · exact ⟨refuses (retire_underWay now underWay), refuses (retire_underWay deferred underWay)⟩
  · exact ⟨refuses (retire_rejudging now finished busy), refuses (retire_rejudging deferred finished busy)⟩
  · exact ⟨frees (retire_unclaimed now finished idle unclaimed), frees (retire_unclaimed deferred finished idle unclaimed)⟩
  · exact ⟨refuses (retire_claimed now finished idle claimed),
      answering_record ok found (retire_claimed deferred finished idle claimed) rfl⟩

end Sys2Proof.Proofs

/-! SUPPORT. The commands that leave the ring port alone: what they answer, and that neither the port nor the waiting commands and bits change beside the receipt of their frame. -/

namespace Sys2Proof.Proofs

open Sys2Proof.Machine Sys2Proof.Laws

/-! ## The ring port and what waits -/

/-- The ring port, the waiting commands and the waiting bits: what the units beside the ring port do not see. -/
def wire (s : State) : RingPort × List Instr × List Bool := (s.ring, s.pending, s.ringIn)

/-- What a command at a unit beside the ring port comes to: the ring port stands, and the answer holds no effect. -/
structure OffRing (s : State) (ran : State × Answer) : Prop where
  wire : wire ran.1 = wire s
  effect : ran.2.effect = .none

theorem OffRing.refused (s : State) (o : ReplyCode) (field : Nat) (body : List Byte) :
    OffRing s (s, .refuse o field body) := ⟨rfl, rfl⟩

theorem withRecord_offRing {ref : RecordRef} {run : Fin Config.slots → State → State × Answer}
    (runs : ∀ i u, OffRing u (run i u)) (s : State) : OffRing s (withRecord ref run s) := by
  unfold withRecord
  split
  · exact runs _ s
  · exact .refused s _ _ _

/-! ## Eviction and allocation -/

theorem evict_wire {w : RingPort × List Instr × List Bool} (u v : State) (kept : wire u = w)
    (evicted : u.evict = some v) : wire v = w := by
  obtain ⟨i, -, -, -, rfl⟩ := evict_some evicted
  exact kept

theorem allocSlot_wire {s t : State} {i : Fin Config.slots} (taken : s.allocSlot = some (i, t)) : wire t = wire s :=
  allocSlot_keeps (P := fun u => wire u = wire s) evict_wire rfl taken

theorem allocStrips_wire (n : Nat) (i : Fin Config.slots) (s : State) :
    wire (State.allocStrips n i s).1 = wire s :=
  allocStrips_keeps (P := fun u => wire u = wire s) evict_wire (fun _ kept _ => kept) n rfl

/-! ## Commands of the shell table -/

theorem arm_offRing (id : Word) (f : ShellFields) (s : State) : OffRing s (arm id f s) := by
  unfold arm
  split
  · exact ⟨rfl, rfl⟩
  · dsimp only
    split
    · exact ⟨rfl, rfl⟩
    · split
      · exact ⟨rfl, rfl⟩
      · split
        · exact ⟨rfl, rfl⟩
        · split
          · exact ⟨rfl, rfl⟩
          · rename_i i t taken
            have kept : wire (t.placeArmed i id (ShellFields.settings f)) = wire t := rfl
            exact ⟨kept.trans (allocSlot_wire taken), rfl⟩

theorem disarm_offRing (i : Fin Config.slots) (s : State) : OffRing s (disarm i s) := by
  unfold disarm
  split <;> exact ⟨rfl, rfl⟩

theorem moveRef_wire (s : State) (old new : Fin Config.materials) : wire (s.moveRef old new) = wire s := by
  unfold State.moveRef
  split <;> rfl

theorem amend_offRing (f : AmendFields) (i : Fin Config.slots) (s : State) : OffRing s (amend f i s) := by
  unfold amend
  split
  · exact ⟨rfl, rfl⟩
  · split
    · exact ⟨rfl, rfl⟩
    · split
      · exact ⟨rfl, rfl⟩
      · exact ⟨moveRef_wire s _ _, rfl⟩

theorem templateWrite_offRing (f : ShellFields) (s : State) : OffRing s (templateWrite f s) := by
  unfold templateWrite
  split <;> exact ⟨rfl, rfl⟩

theorem find_effect (states verdicts : Byte) (flags : BitVec 24) (s : State) :
    (find states verdicts flags s).effect = .none := by
  unfold find
  split <;> rfl

theorem claim_offRing (source : Byte) (i : Fin Config.slots) (s : State) : OffRing s (claim source i s) := by
  simp only [claim]
  (repeat' split) <;> exact ⟨rfl, rfl⟩

theorem release_offRing (source : Byte) (i : Fin Config.slots) (s : State) : OffRing s (release source i s) := by
  simp only [release]
  (repeat' split) <;> exact ⟨rfl, rfl⟩

theorem retire_offRing (option : RetireOption) (i : Fin Config.slots) (s : State) :
    OffRing s (retire option i s) := by
  simp only [retire]
  (repeat' split) <;> exact ⟨rfl, rfl⟩

/-! ## Commands of the other units -/

theorem trackerSet_offRing (f : TrackerFields) (s : State) : OffRing s (trackerSet f s) := by
  unfold trackerSet
  (repeat' split) <;> exact ⟨rfl, rfl⟩

theorem headSet_offRing (head : Byte) (f : HeadFields) (s : State) : OffRing s (headSet head f s) := by
  unfold headSet
  (repeat' split) <;> exact ⟨rfl, rfl⟩

theorem headEnable_offRing (head : Byte) (s : State) : OffRing s (headEnable head s) := by
  unfold headEnable
  (repeat' split) <;> exact ⟨rfl, rfl⟩

theorem headDisable_offRing (head : Byte) (s : State) : OffRing s (headDisable head s) := by
  unfold headDisable
  split <;> exact ⟨rfl, rfl⟩

theorem headRead_effect (head : Byte) (s : State) : (headRead head s).effect = .none := by
  unfold headRead
  split <;> rfl

theorem materialWrite_offRing (entry : Byte) (f : MaterialValues) (s : State) :
    OffRing s (materialWrite entry f s) := by
  unfold materialWrite
  (repeat' split) <;> exact ⟨rfl, rfl⟩

theorem materialClear_offRing (entry : Byte) (s : State) : OffRing s (materialClear entry s) := by
  unfold materialClear
  (repeat' split) <;> exact ⟨rfl, rfl⟩

theorem materialRead_effect (entry : Byte) (s : State) : (materialRead entry s).effect = .none := by
  unfold materialRead
  split <;> rfl

theorem poolSet_offRing (setting : Byte) (s : State) : OffRing s (poolSet setting s) := by
  unfold poolSet
  split <;> exact ⟨rfl, rfl⟩

theorem limitWrite_offRing (set : Byte) (f : LimitFields) (s : State) : OffRing s (limitWrite set f s) := by
  unfold limitWrite
  (repeat' split) <;> exact ⟨rfl, rfl⟩

theorem limitRead_effect (set : Byte) (s : State) : (limitRead set s).effect = .none := by
  unfold limitRead
  split <;> rfl

theorem readZones_effect (i : Fin Config.slots) (s : State) : (readZones i s).effect = .none := by
  simp only [readZones]
  split <;> rfl

theorem startRejudge_wire (s : State) (i : Fin Config.slots) : wire (s.startRejudge i) = wire s := by
  simp only [State.startRejudge]
  split <;> rfl

theorem rejudge_offRing (i : Fin Config.slots) (s : State) : OffRing s (rejudge i s) := by
  unfold rejudge
  split
  · exact ⟨rfl, rfl⟩
  · split
    · exact ⟨rfl, rfl⟩
    · split
      · exact ⟨rfl, rfl⟩
      · exact ⟨startRejudge_wire s i, rfl⟩

theorem noticeMask_offRing (mask : Half) (s : State) : OffRing s (noticeMask mask s) := by
  unfold noticeMask
  split <;> exact ⟨rfl, rfl⟩

theorem fetchNotice_offRing (s : State) : OffRing s (fetchNotice s) := by
  unfold fetchNotice
  split <;> exact ⟨rfl, rfl⟩

theorem readStrips_effect (form : Byte) (first : Half) (count : Byte) (i : Fin Config.slots) (s : State) :
    (readStrips form first count i s).effect = .none := by
  simp only [readStrips]
  (repeat' split) <;> rfl

/-! ## Completions and passages -/

theorem poolShort_wire (s : State) (i : Fin Config.slots) : wire (s.poolShort i) = wire s := by
  simp only [State.poolShort]
  split <;> rfl

theorem fillStrips_wire (s : State) (i : Fin Config.slots) : wire (s.fillStrips i).1 = wire s :=
  (allocStrips_wire _ i _).trans rfl

theorem completeRecord_wire (s : State) (i : Fin Config.slots) : wire (s.completeRecord i) = wire s := by
  have filled : wire (if (s.fillStrips i).2 then (s.fillStrips i).1 else (s.fillStrips i).1.poolShort i) = wire s := by
    split
    · exact fillStrips_wire s i
    · exact (poolShort_wire _ i).trans (fillStrips_wire s i)
  have finished (u : State) (void : Prop) [Decidable void] :
      wire (if void then u.voidRecord i else u.finishRecord i) = wire u := by
    split <;> rfl
  exact (finished _ _).trans filled

theorem advanceContext_wire (s : State) (c : Context) : wire (s.advanceContext c) = wire s := by
  simp only [State.advanceContext]
  split
  · exact completeRecord_wire _ _
  · rfl

/-- What every context's turn leaves alone, a walk over the contexts leaves alone. -/
theorem foldl_contexts_wire {f : State → Context → State} (each : ∀ u c, wire (f u c) = wire u)
    (contexts : List Context) (s : State) : wire (contexts.foldl f s) = wire s :=
  foldl_contexts_keeps (P := fun u => wire u = wire s) (fun u c kept => (each u c).trans kept) contexts rfl

theorem flagBound_wire (s : State) (k : HistoryFlag) : wire (s.flagBound k) = wire s :=
  foldl_contexts_wire (f := fun u c => u.modSlot c.slot fun r => r.flag k) (fun _ _ => rfl) _ s

theorem makeRoom_wire (s : State) : wire s.makeRoom = wire s := by
  unfold State.makeRoom
  split
  · exact completeRecord_wire _ _
  · rfl

theorem seekRecord_wire (s : State) : wire s.seekRecord.1 = wire s := by
  unfold State.seekRecord
  split
  · rfl
  · split
    · split
      · rename_i i t taken
        have kept : wire (t.placeAnonymous i) = wire t := rfl
        exact kept.trans (allocSlot_wire taken)
      · rfl
    · rfl

theorem arrival_wire (s : State) (edge : Word) : wire (s.arrival edge) = wire s :=
  (seekRecord_wire _).trans (makeRoom_wire s)

theorem departure_wire (s : State) (edge : Word) : wire (s.departure edge) = wire s := by
  unfold State.departure
  split <;> rfl

theorem stallAll_wire (s : State) : wire s.stallAll = wire s :=
  foldl_contexts_wire (f := State.stallRecord) (fun _ _ => rfl) _ s

theorem loseSpin_wire (s : State) : wire s.loseSpin = wire s := by
  simp only [State.loseSpin]
  split
  · rfl
  · exact flagBound_wire _ _

/-! ## Head lines and shots -/

theorem validReport_wire (s : State) (h : Fin Config.heads) (octets : List Byte) :
    wire (s.validReport h octets) = wire s := by
  simp only [State.validReport]
  split <;> rfl

theorem gather_wire (s : State) (h : Fin Config.heads) (octets : List Byte) (fault : Bool) :
    wire (s.gather h octets fault) = wire s := by
  unfold State.gather State.runReached
  split
  · split
    · rfl
    · exact validReport_wire s h octets
  · rfl

theorem octetIn_wire (s : State) (h : Fin Config.heads) (o : RunOctet) : wire (s.octetIn h o) = wire s := by
  unfold State.octetIn
  split
  · rfl
  · split
    · exact gather_wire s h _ _
    · rfl
  · exact gather_wire s h _ _
  · rfl
  · rfl

theorem octetsIn_wire (h : Fin Config.heads) (octets : List RunOctet) (s : State) :
    wire (s.octetsIn h octets) = wire s := by
  induction octets generalizing s with
  | nil => rfl
  | cons o rest ih => exact (ih _).trans (octetIn_wire s h o)

theorem lineGap_wire (s : State) (h : Fin Config.heads) : wire (s.lineGap h) = wire s := by
  unfold State.lineGap
  (repeat' split) <;> rfl

theorem fallSilent_wire (s : State) (h : Fin Config.heads) : wire (s.fallSilent h) = wire s := by
  unfold State.fallSilent
  split
  · rfl
  · exact flagBound_wire _ _

theorem convert_wire (s : State) (h : Fin Config.heads) (rep : Report) (i : Fin Config.slots) (station : Nat)
    (sector : Fin Config.sectors) (cls : ShotClass) : wire (s.convert h rep i station sector cls) = wire s := by
  simp only [State.convert]
  (repeat' split) <;> rfl

theorem classify_wire (s : State) (h : Fin Config.heads) (rep : Report) (i : Fin Config.slots) (station : Nat)
    (sector : Fin Config.sectors) : wire (s.classify h rep i station sector) = wire s := by
  simp only [State.classify]
  split
  · rfl
  · exact convert_wire _ _ _ _ _ _ _

theorem place_wire (s : State) (h : Fin Config.heads) (rep : Report) (i : Fin Config.slots) (generation : Byte)
    (station : Nat) (sector : Fin Config.sectors) : wire (s.place h rep i generation station sector) = wire s := by
  have filled := allocStrips_wire (station + 1 - (s.slot i).strips.length) i s
  simp only [State.place]
  split
  · rfl
  · split
    · rfl
    · split
      · split
        · rfl
        · exact classify_wire s h rep i _ _
      · split
        · exact (classify_wire _ h rep i _ _).trans filled
        · exact (poolShort_wire _ i).trans filled

theorem shotService_wire (s : State) : wire s.shotService = wire s := by
  unfold State.shotService
  split
  · rfl
  · split
    · rfl
    · split
      · rfl
      · exact place_wire _ _ _ _ _ _ _

theorem rejudgeStep_wire (s : State) : wire s.rejudgeStep = wire s := by
  unfold State.rejudgeStep
  split
  · rfl
  · split <;> rfl

/-! ## Every command off the ring -/

/-- The commands whose own meaning moves the ring port, or puts an effect into a reply. -/
def movesRing : Instr → Bool
  | .setAddress .. | .stationsWrite .. | .joinRing .. | .leaveRing .. | .countersClear .. | .restart ..
  | .poll .. | .frameDiscard .. | .longFrame | .abort | .idleRun | .takeTurn | .replySent | .turnEnd | .turnCut
  | .cutEnd | .powerOn .. | .delimiterReceived => true
  | _ => false

/-- A request that is carried out at a unit beside the ring port. -/
def OffRingRequest (s t : State) : Prop :=
  ∃ h row fits run, t = s.request h row fits run ∧ ∀ u, OffRing u (run u)

theorem answering_offRing {h : Header} {row : RequestRow} {run : State → State × Answer} {s t : State}
    (runs : ∀ u, OffRing u (run u)) (next : answering h row run s = .next t) : OffRingRequest s t :=
  ⟨h, row, true, run, (Host.Outcome.next.inj next).symm, runs⟩

theorem reading_offRing {h : Header} {row : RequestRow} {answer : State → Answer} {s t : State}
    (effect : ∀ u, (answer u).effect = .none) (next : answering h row (reading answer) s = .next t) :
    OffRingRequest s t := answering_offRing (fun u => ⟨rfl, effect u⟩) next

/-- Every other command is a request carried out beside the ring port, or leaves the port, the waiting commands and the waiting bits as they were. -/
theorem exec_offRing {i : Instr} {s t : State} (apart : movesRing i = false) (next : exec i s = .next t) :
    OffRingRequest s t ∨ wire t = wire s := by
  cases i with
  | setAddress | stationsWrite | joinRing | leaveRing | countersClear | restart | poll | frameDiscard | longFrame
  | abort | idleRun | takeTurn | replySent | turnEnd | turnCut | cutEnd | powerOn | delimiterReceived =>
    exact Bool.noConfusion apart
  | arm h id f => exact .inl (answering_offRing (arm_offRing id f) next)
  | disarm h ref => exact .inl (answering_offRing (withRecord_offRing disarm_offRing) next)
  | amend h ref f => exact .inl (answering_offRing (withRecord_offRing (amend_offRing f)) next)
  | claim h ref => exact .inl (answering_offRing (withRecord_offRing (claim_offRing h.source)) next)
  | release h ref => exact .inl (answering_offRing (withRecord_offRing (release_offRing h.source)) next)
  | retireNow h ref octet => exact .inl (answering_offRing (withRecord_offRing (retire_offRing (nowOption octet))) next)
  | retireDeferred h ref => exact .inl (answering_offRing (withRecord_offRing (retire_offRing .deferred)) next)
  | retireForce h ref => exact .inl (answering_offRing (withRecord_offRing (retire_offRing .force)) next)
  | rejudge h ref => exact .inl (answering_offRing (withRecord_offRing rejudge_offRing) next)
  | lookup h ref => exact .inl (answering_offRing (withRecord_offRing fun _ _ => ⟨rfl, rfl⟩) next)
  | readStrips h ref form first count =>
    exact .inl (answering_offRing (withRecord_offRing fun i u => ⟨rfl, readStrips_effect form first count i u⟩) next)
  | readZones h ref => exact .inl (answering_offRing (withRecord_offRing fun i u => ⟨rfl, readZones_effect i u⟩) next)
  | templateWrite h f => exact .inl (answering_offRing (templateWrite_offRing f) next)
  | trackerSet h f => exact .inl (answering_offRing (trackerSet_offRing f) next)
  | headSet h head f => exact .inl (answering_offRing (headSet_offRing head f) next)
  | headEnable h head => exact .inl (answering_offRing (headEnable_offRing head) next)
  | headDisable h head => exact .inl (answering_offRing (headDisable_offRing head) next)
  | materialWrite h entry f => exact .inl (answering_offRing (materialWrite_offRing entry f) next)
  | materialClear h entry => exact .inl (answering_offRing (materialClear_offRing entry) next)
  | poolSet h setting => exact .inl (answering_offRing (poolSet_offRing setting) next)
  | limitWrite h set f => exact .inl (answering_offRing (limitWrite_offRing set f) next)
  | noticeMask h mask => exact .inl (answering_offRing (noticeMask_offRing mask) next)
  | fetchNotice h => exact .inl (answering_offRing fetchNotice_offRing next)
  | find h states verdicts flags => exact .inl (reading_offRing (find_effect states verdicts flags) next)
  | headRead h head => exact .inl (reading_offRing (headRead_effect head) next)
  | materialRead h entry => exact .inl (reading_offRing (materialRead_effect entry) next)
  | limitRead h set => exact .inl (reading_offRing (limitRead_effect set) next)
  | templateRead | poolStatus | partStatus | countersRead => exact .inl (reading_offRing (fun _ => rfl) next)
  | malformed | ignoredBroadcast =>
    exact .inl ⟨_, _, false, _, (Host.Outcome.next.inj next).symm, fun _ => ⟨rfl, rfl⟩⟩
  | entryChange | spinPulse | indexPulse => exact .inr (Host.Outcome.next.inj next ▸ rfl)
  | litEdge =>
    obtain rfl := Host.Outcome.next.inj next
    split
    · exact .inr (arrival_wire _ _)
    · exact .inr rfl
  | darkEdge =>
    obtain rfl := Host.Outcome.next.inj next
    split
    · exact .inr (departure_wire _ _)
    · exact .inr rfl
  | advancePulse =>
    exact .inr (Host.Outcome.next.inj next ▸ foldl_contexts_wire (f := State.advanceContext) advanceContext_wire _ _)
  | stall =>
    obtain rfl := Host.Outcome.next.inj next
    split
    · exact .inr (stallAll_wire s)
    · exact .inr rfl
  | spinTimeout =>
    obtain rfl := Host.Outcome.next.inj next
    split
    · exact .inr (loseSpin_wire s)
    · exact .inr rfl
  | headReport port octets => exact .inr (Host.Outcome.next.inj next ▸ octetsIn_wire port _ s)
  | corrupt port octets =>
    have taken := octetsIn_wire port octets s
    obtain rfl := Host.Outcome.next.inj next
    split
    · exact .inr ((lineGap_wire _ port).trans taken)
    · exact .inr taken
  | stray port octets =>
    exact .inr (Host.Outcome.next.inj next ▸ (lineGap_wire _ port).trans (octetsIn_wire port octets s))
  | silenceTimeout port =>
    obtain rfl := Host.Outcome.next.inj next
    split
    · exact .inr (fallSilent_wire s port)
    · exact .inr rfl
  | shotService => exact .inr (Host.Outcome.next.inj next ▸ shotService_wire s)
  | rejudgeStep => exact .inr (Host.Outcome.next.inj next ▸ rejudgeStep_wire s)
  | lineIdleGap port => exact .inr (Host.Outcome.next.inj next ▸ lineGap_wire s port)

end Sys2Proof.Proofs

/-! SUPPORT. Every step keeps the ring port sound: the turn's phase and its reply in hand, the address, the held effects and the station table. -/

namespace Sys2Proof.Proofs

open Sys2Proof.Machine Sys2Proof.Laws

/-! ## What a turn does not move -/

/-- The part of a sound ring port that a turn does not move: the address, the effects of the queued replies, and the station table. -/
structure AddressesSound (r : RingPort) : Prop where
  address : 2 ≤ addressOf r.part.toNat r.strap.toNat
  effects : ∀ reply ∈ r.replies, reply.effect.allowed r.strap
  stations : ∀ k st, r.stations[(k : Fin Config.stationEntries)] = some st → 2 ≤ st.address.toNat
  distinct : ∀ j k, j ≠ k → ∀ st, r.stations[(j : Fin Config.stationEntries)] = some st →
    (r.stations[(k : Fin Config.stationEntries)].map Station.address) ≠ some st.address

/-- The turn's side of a sound ring port joins the addresses' side. -/
theorem ringSound_of_addresses {r : RingPort} (addresses : AddressesSound r)
    (phase : r.phase = .none ↔ r.state ≠ .active) (sending : r.phase = .sending → r.replies ≠ []) : RingSound r :=
  ⟨phase, sending, addresses.address, addresses.effects, addresses.stations, addresses.distinct⟩

/-- In ACTIVE every phase but none fits. -/
theorem phase_fits {r : RingPort} (active : r.state = .active) (turn : r.phase ≠ .none) :
    r.phase = .none ↔ r.state ≠ .active :=
  iff_of_false turn fun apart => apart active

/-! ## Turns -/

theorem ringCount_sound {r : RingPort} (sound : RingSound r) (c : RingCounter) : RingSound (r.count c) := { sound with }

/-- Outside a turn the port may enter any state but ACTIVE. -/
theorem enter_sound {r : RingPort} (sound : RingSound r) (quiet : r.state ≠ .active) {st : RingState}
    (apart : st ≠ .active) : RingSound (r.enter st) :=
  have none : r.phase = .none := sound.phase.mpr quiet
  { sound with phase := iff_of_true none apart }

theorem leaveActive_sound {r : RingPort} (sound : RingSound r) {st : RingState} (apart : st ≠ .active) :
    RingSound (r.leaveActive st) :=
  { sound with phase := iff_of_true rfl apart, sending := fun sends => nomatch sends }

theorem cut_sound {r : RingPort} (sound : RingSound r) : RingSound r.cut := by
  unfold RingPort.cut
  split
  · rename_i turn
    have cutting : RingSound { r with permit := false, phase := .cutting, toDrive := cutBits } :=
      { sound with phase := phase_fits turn.1 nofun, sending := nofun }
    exact ringCount_sound cutting _
  · exact sound

theorem turnEnd_sound {r : RingPort} (sound : RingSound r) : RingSound r.turnEnd := by
  unfold RingPort.turnEnd
  split
  · exact leaveActive_sound sound (by split <;> decide)
  · exact sound

theorem cutEnd_sound {r : RingPort} (sound : RingSound r) : RingSound r.cutEnd := by
  unfold RingPort.cutEnd
  split
  · exact leaveActive_sound sound (by decide)
  · exact sound

theorem frame_sound {r : RingPort} (sound : RingSound r) : RingSound r.frame :=
  { cutEnd_sound (turnEnd_sound (cut_sound sound)) with }

/-- A frame leaves the port sound and outside ACTIVE (R191). -/
theorem frame_sound_quiet {r : RingPort} (sound : RingSound r) : RingSound r.frame ∧ r.frame.state ≠ .active :=
  ⟨frame_sound sound, frame_not_active fun active none => sound.phase.mp none active⟩

theorem idleRun_sound {r : RingPort} (sound : RingSound r) : RingSound r.idleRun := by
  simp only [RingPort.idleRun]
  split
  · rename_i joining
    have quiet : r.state ≠ .active := by rw [joining]; decide
    exact { enter_sound sound quiet (st := .onRing) (by decide) with }
  · exact { sound with }

/-- The turn is taken with a reply in hand (R179). -/
theorem takeTurn_sound {r : RingPort} (sound : RingSound r) : RingSound r.takeTurn := by
  simp only [RingPort.takeTurn]
  split
  · exact { sound with }
  · rename_i reply rest queue
    have queued : r.replies ≠ [] := by rw [queue]; exact List.cons_ne_nil _ _
    split
    · exact { sound with phase := phase_fits rfl nofun, sending := fun _ => queued }
    · exact { sound with }

/-- A sent reply's effect gives an address of 2 or above, as it was allowed when the reply was queued (R165). -/
theorem applyEffect_addresses {r : RingPort} {sent : Reply} {rest : List Reply} (sound : RingSound r)
    (queue : r.replies = sent :: rest) (count : Nat) :
    AddressesSound { r.applyEffect sent.effect with replies := rest, sentInTurn := count } := by
  have effects := sound.effects
  rw [queue] at effects
  have allowed := effects sent List.mem_cons_self
  have queued (reply : Reply) (mem : reply ∈ rest) := effects reply (.tail _ mem)
  cases effect : sent.effect with
  | address part =>
    rw [effect] at allowed
    exact ⟨allowed, queued, sound.stations, sound.distinct⟩
  | none | leave => exact ⟨sound.address, queued, sound.stations, sound.distinct⟩

@[simp] theorem applyEffect_state (r : RingPort) (effect : ReplyEffect) : (r.applyEffect effect).state = r.state := by
  cases effect <;> rfl
@[simp] theorem applyEffect_phase (r : RingPort) (effect : ReplyEffect) : (r.applyEffect effect).phase = r.phase := by
  cases effect <;> rfl

/-- A turn goes on only with another reply in hand, and otherwise begins its release (R180). -/
theorem goOn_sound {r : RingPort} (addresses : AddressesSound r) (active : r.state = .active)
    (phase : r.phase = .sending) (effect : ReplyEffect) : RingSound (r.goOn effect) := by
  unfold RingPort.goOn
  split
  · exact ringSound_of_addresses { addresses with } (phase_fits active nofun) nofun
  · rename_i goes
    have queued : r.replies ≠ [] := fun empty => goes (by simp [turnEnds, empty])
    have turn : r.phase ≠ .none := by rw [phase]; decide
    have sound := ringSound_of_addresses addresses (phase_fits active turn) fun _ => queued
    split
    · exact sound
    · exact { sound with }

theorem replySent_sound {r : RingPort} (sound : RingSound r) : RingSound r.replySent := by
  unfold RingPort.replySent
  split
  · exact sound
  · rename_i sent rest queue
    split
    · rename_i turn
      exact goOn_sound (applyEffect_addresses sound queue _) (by simpa using turn.1) (by simpa using turn.2) _
    · exact sound

/-! ## The checks of STATIONS WRITE -/

theorem selected_iff {f : StationFields} {k : Fin Config.stationEntries} {p : Byte → Byte → Bool} :
    StationFields.selected f k p = true ↔
      ∃ address rights, f.entries[k] = some (address, rights) ∧ p address rights = true := by
  unfold StationFields.selected
  cases f.entries[k] with
  | none => simp
  | some carried => exact ⟨fun passes => ⟨_, _, rfl, passes⟩, fun ⟨_, _, is, passes⟩ => Option.some.inj is ▸ passes⟩

/-- An entry shares its address when another entry holds it. -/
theorem sharesAddress_iff {table : Vector (Option Station) Config.stationEntries} {k : Fin Config.stationEntries} :
    sharesAddress table k = true ↔
      ∃ st j, table[k] = some st ∧ j ≠ k ∧ (table[j].map Station.address) = some st.address := by
  unfold sharesAddress
  cases table[k] <;> simp [entryOrder]

theorem result_unselected {f : StationFields} {k : Fin Config.stationEntries} (unselected : f.entries[k] = none)
    (held : Vector (Option Station) Config.stationEntries) : (StationFields.result f held)[k] = held[k] := by
  have unselected : f.entries[k.val] = none := unselected
  simp [StationFields.result, unselected]

theorem result_selected {f : StationFields} {k : Fin Config.stationEntries} {address rights : Byte}
    (selected : f.entries[k] = some (address, rights)) (held : Vector (Option Station) Config.stationEntries) :
    (StationFields.result f held)[k] = stationOf address rights := by
  have selected : f.entries[k.val] = some (address, rights) := selected
  simp [StationFields.result, selected]

/-- A selected entry carries address 1 (R169 check 1). -/
def carriesOne (f : StationFields) (k : Fin Config.stationEntries) : Bool :=
  StationFields.selected f k fun a _ => decide (a = 1)

/-- A selected entry carries rights beyond the six (R169 check 3). -/
def carriesWrong (f : StationFields) (k : Fin Config.stationEntries) : Bool :=
  StationFields.selected f k fun _ r => decide (r &&& ~~~0x3F#8 ≠ 0)

/-- A selected entry shares its address in the table that would result (R169 check 4). -/
def repeatsAddress (f : StationFields) (held : Vector (Option Station) Config.stationEntries)
    (k : Fin Config.stationEntries) : Bool :=
  StationFields.selected f k (fun _ _ => true) && sharesAddress (StationFields.result f held) k

/-- What a check over the entries in ascending order answers: the lowest entry that fails it, by its field number. -/
def firstEntry (fails : Fin Config.stationEntries → Bool) (o : ReplyCode) : Option (ReplyCode × Nat) :=
  (entryOrder.find? fails).map fun k => (o, k.val + 1)

/-- The checks of STATIONS WRITE are made in turn, each over the entries in ascending order (R169). -/
theorem fault_eq (f : StationFields) (held : Vector (Option Station) Config.stationEntries) :
    StationFields.fault f held = if f.highSelect ≠ 0 then some (.range, 0) else
      (firstEntry (carriesOne f) .range).or ((firstEntry (carriesWrong f) .range).or
        (firstEntry (repeatsAddress f held) .duplicate)) := by
  unfold StationFields.fault
  split
  · rfl
  · simp only [Option.orElse_eq_orElse, Option.orElse_eq_or]
    rfl

theorem firstEntry_none_iff {fails : Fin Config.stationEntries → Bool} {o : ReplyCode} :
    firstEntry fails o = none ↔ ∀ k, fails k = false := by
  simp [firstEntry, entryOrder]

/-- A STATIONS WRITE passes when each of its checks does. -/
theorem fault_none_iff {f : StationFields} {held : Vector (Option Station) Config.stationEntries} :
    StationFields.fault f held = none ↔ f.highSelect = 0 ∧ (∀ k, carriesOne f k = false) ∧
      (∀ k, carriesWrong f k = false) ∧ ∀ k, repeatsAddress f held k = false := by
  rw [fault_eq]
  split
  · rename_i high
    exact iff_of_false nofun fun ⟨named, _⟩ => high named
  · rename_i named
    simp only [Option.or_eq_none_iff, firstEntry_none_iff, not_not.mp named, true_and]

/-! ## The station table -/

theorem stationOf_address {address rights : Byte} {st : Station} (made : stationOf address rights = some st) :
    st.address = address ∧ address ≠ 0 := by
  unfold stationOf at made
  split at made
  · exact absurd made nofun
  · rename_i some
    exact ⟨(Option.some.inj made ▸ rfl), some⟩

/-- A STATIONS WRITE that passes leaves the table without address 0, address 1 or a repeated one (R167, R169). -/
theorem result_sound {f : StationFields} {r : RingPort} (sound : RingSound r)
    (passed : StationFields.fault f r.stations = none) :
    RingSound { r with stations := StationFields.result f r.stations } := by
  obtain ⟨-, one, -, twice⟩ := fault_none_iff.mp passed
  refine { sound with stations := fun k st is => ?_, distinct := fun j k apart st is shared => ?_ }
  · cases entry : f.entries[k] with
    | none => exact sound.stations k st ((result_unselected entry _).symm.trans is)
    | some carried =>
      obtain ⟨address, rights⟩ := carried
      obtain ⟨rfl, some⟩ := stationOf_address ((result_selected entry _).symm.trans is)
      have other : st.address ≠ 1 := fun carried =>
        nomatch (one k).symm.trans (selected_iff.mpr ⟨_, _, entry, decide_eq_true carried⟩)
      bv_omega
  · have unselected (k : Fin Config.stationEntries)
        (shares : sharesAddress (StationFields.result f r.stations) k = true) : f.entries[k] = none := by
      cases entry : f.entries[k] with
      | none => rfl
      | some carried =>
        have repeated : repeatsAddress f r.stations k = true :=
          Bool.and_eq_true_iff.mpr ⟨selected_iff.mpr ⟨_, _, entry, rfl⟩, shares⟩
        exact nomatch (twice k).symm.trans repeated
    obtain ⟨st', is', same⟩ := Option.map_eq_some_iff.mp shared
    have first := unselected j (sharesAddress_iff.mpr ⟨st, k, is, apart.symm, shared⟩)
    have second := unselected k (sharesAddress_iff.mpr ⟨st', j, is', apart, by
      rw [show (StationFields.result f r.stations)[j] = some st from is]
      exact congrArg some same.symm⟩)
    refine sound.distinct j k apart st ((result_unselected first _).symm.trans is) ?_
    rw [← result_unselected second]
    exact shared

/-! ## Requests -/

/-- A request that finds the port sound leaves it sound when its command does and gives its reply an allowed effect. -/
theorem request_sound {run : State → State × Answer} {s : State} (sound : RingSound s.ring)
    (runs : ∀ u, RingSound u.ring → u.ring.state ≠ .active →
      RingSound (run u).1.ring ∧ (run u).2.effect.allowed (run u).1.ring.strap)
    (h : Header) (row : RequestRow) (fits : Bool) : RingSound (s.request h row fits run).ring := by
  obtain ⟨framed, quiet⟩ := frame_sound_quiet sound
  have enqueue (u : State) (kept : RingSound u.ring) (code : Byte) (a : Answer)
      (allowed : a.effect.allowed u.ring.strap) : RingSound (u.enqueue h code a).ring := by
    unfold State.enqueue
    split
    · refine { kept with sending := fun _ => List.concat_ne_nil _ _, effects := fun reply mem => ?_ }
      rcases List.mem_append.mp mem with queued | built
      · exact kept.effects reply queued
      · obtain rfl := List.mem_singleton.mp built
        exact allowed
    · exact kept
  have admitted : RingSound (s.frameIn.admitted h row fits run).ring := by
    unfold State.admitted
    split
    · exact ringCount_sound framed _
    · split
      · exact enqueue _ framed _ _ trivial
      · split
        · exact enqueue _ (ringCount_sound framed _) _ _ trivial
        · obtain ⟨kept, allowed⟩ := runs s.frameIn framed quiet
          exact enqueue _ kept _ _ allowed
  simp only [State.request]
  split
  · exact ringCount_sound framed _
  · split
    · split
      · exact admitted
      · exact ringCount_sound framed _
    · split
      · exact admitted
      · exact framed

theorem answering_sound {run : State → State × Answer} {h : Header} {row : RequestRow} {s t : State}
    (sound : RingSound s.ring)
    (runs : ∀ u, RingSound u.ring → u.ring.state ≠ .active →
      RingSound (run u).1.ring ∧ (run u).2.effect.allowed (run u).1.ring.strap)
    (next : answering h row run s = .next t) : RingSound t.ring := by
  obtain rfl := Host.Outcome.next.inj next
  exact request_sound sound runs h row true

theorem setAddress_sound (part : Byte) (s : State) (sound : RingSound s.ring) :
    RingSound (setAddress part s).1.ring ∧
      (setAddress part s).2.effect.allowed (setAddress part s).1.ring.strap := by
  unfold setAddress
  split
  · exact ⟨sound, trivial⟩
  · rename_i passed
    refine ⟨sound, ?_⟩
    show 2 ≤ addressOf (part.setWidth 4).toNat s.ring.strap.toNat
    have whole : (part.setWidth 4).toNat = part.toNat := by
      rw [BitVec.toNat_setWidth]
      omega
    rw [whole]
    omega

theorem stationsWrite_sound (f : StationFields) (s : State) (sound : RingSound s.ring) :
    RingSound (stationsWrite f s).1.ring ∧
      (stationsWrite f s).2.effect.allowed (stationsWrite f s).1.ring.strap := by
  unfold stationsWrite
  split
  · exact ⟨sound, trivial⟩
  · rename_i passed
    exact ⟨result_sound sound passed, trivial⟩

theorem joinRing_sound (s : State) (sound : RingSound s.ring) (quiet : s.ring.state ≠ .active) :
    RingSound (joinRing s).1.ring ∧ (joinRing s).2.effect.allowed (joinRing s).1.ring.strap := by
  refine ⟨?_, trivial⟩
  unfold joinRing
  split
  · exact enter_sound sound quiet nofun
  · exact sound

theorem leaveRing_sound (s : State) (sound : RingSound s.ring) (quiet : s.ring.state ≠ .active) :
    RingSound (leaveRing s).1.ring ∧ (leaveRing s).2.effect.allowed (leaveRing s).1.ring.strap := by
  unfold leaveRing
  split
  · exact ⟨sound, trivial⟩
  · exact ⟨enter_sound sound quiet nofun, trivial⟩
  · exact ⟨sound, trivial⟩

/-- A restart empties the reply queue, which no turn is sending from (R183). -/
theorem restart_sound {r : RingPort} (sound : RingSound r) (quiet : r.state ≠ .active) : RingSound r.restart :=
  have none : r.phase = .none := sound.phase.mpr quiet
  { sound with sending := fun sends => (nomatch none.symm.trans sends), effects := nofun }

/-! ## Every step -/

theorem exec_sound (i : Instr) (s t : State) (sound : RingSound s.ring) (next : exec i s = .next t) :
    RingSound t.ring := by
  have framed := frame_sound sound
  have cut := cut_sound sound
  by_cases moves : movesRing i = false
  · rcases exec_offRing moves next with ⟨h, row, fits, run, rfl, off⟩ | same
    · refine request_sound sound (fun u kept _ => ?_) h row fits
      have ring : (run u).1.ring = u.ring := congrArg Prod.fst (off u).wire
      rw [ring, (off u).effect]
      exact ⟨kept, trivial⟩
    · have ring : t.ring = s.ring := congrArg Prod.fst same
      rw [ring]
      exact sound
  · cases i with
    | setAddress h part => exact answering_sound sound (fun u kept _ => setAddress_sound part u kept) next
    | stationsWrite h f => exact answering_sound sound (fun u kept _ => stationsWrite_sound f u kept) next
    | joinRing h => exact answering_sound sound joinRing_sound next
    | leaveRing h => exact answering_sound sound leaveRing_sound next
    | countersClear h =>
      exact answering_sound (run := countersClear) sound (fun _ kept _ => ⟨{ kept with }, trivial⟩) next
    | restart h =>
      exact answering_sound (run := fun u => (u.restart, .done [])) sound
        (fun _ kept quiet => ⟨restart_sound kept quiet, trivial⟩) next
    | poll dest source =>
      obtain rfl := Host.Outcome.next.inj next
      simp only [State.pollFrame]
      split
      · exact ringCount_sound framed _
      · split
        · exact { framed with }
        · exact framed
    | frameDiscard content =>
      obtain rfl := Host.Outcome.next.inj next
      unfold State.discardFrame
      split
      · exact ringCount_sound framed _
      · exact { cut with }
    | longFrame =>
      have long : RingSound { s.ring.frame with rx := s.ring.rx.hunting } := { framed with }
      exact Host.Outcome.next.inj next ▸ ringCount_sound long _
    | abort =>
      have aborted : RingSound { s.ring.cut with rx := s.ring.rx.huntingAt 6 } := { cut with }
      exact Host.Outcome.next.inj next ▸ ringCount_sound aborted _
    | idleRun => exact Host.Outcome.next.inj next ▸ idleRun_sound sound
    | takeTurn => exact Host.Outcome.next.inj next ▸ takeTurn_sound sound
    | replySent => exact Host.Outcome.next.inj next ▸ replySent_sound sound
    | turnEnd => exact Host.Outcome.next.inj next ▸ turnEnd_sound sound
    | cutEnd => exact Host.Outcome.next.inj next ▸ cutEnd_sound sound
    | turnCut | delimiterReceived => exact Host.Outcome.next.inj next ▸ { cut with }
    | powerOn straps => exact Host.Outcome.next.inj next ▸ powerOn_ringSound straps
    | _ => exact absurd rfl moves

/-- Settles O58: no frame is carried out in ACTIVE, a turn goes on only with a reply in hand, and the checks of SET ADDRESS and STATIONS WRITE keep the addresses. -/
theorem stepKeepsRingSound : Obligations.StepKeepsRingSound := by
  intro s t sound next
  exact step_keeps (P := fun u => RingSound u.ring) (fun _ _ kept => kept) (fun _ _ _ kept => { kept with }) exec_sound
    sound next

end Sys2Proof.Proofs

/-! SUPPORT. A step with a command or a bit time, the bit receiver, the raising of notices and the counters. -/

namespace Sys2Proof.Proofs

open Sys2Proof.Machine Sys2Proof.Laws

/-! ## Commands and what waits -/

/-- The part has no fault and no command without a meaning (log entry 19). -/
theorem exec_next (i : Instr) (s : State) : ∃ t, exec i s = .next t := by
  cases i <;> exact ⟨_, rfl⟩

/-- The waiting commands and the waiting bits are the given ones. -/
def Waiting (commands : List Instr) (bits : List Bool) (s : State) : Prop := s.pending = commands ∧ s.ringIn = bits

theorem waiting_requestSafe (commands : List Instr) (bits : List Bool) : RequestSafe (Waiting commands bits) where
  frame _ kept := kept
  count _ _ kept := kept
  shed _ kept := kept
  enqueue u h code a kept := by
    unfold State.enqueue
    split <;> exact kept

/-- No command touches the waiting commands or the waiting bits. -/
theorem exec_waiting {i : Instr} {s t : State} (next : exec i s = .next t) : Waiting s.pending s.ringIn t := by
  have safe := waiting_requestSafe s.pending s.ringIn
  have kept : Waiting s.pending s.ringIn s := ⟨rfl, rfl⟩
  by_cases moves : movesRing i = false
  · rcases exec_offRing moves next with ⟨h, row, fits, run, rfl, off⟩ | same
    · refine request_keeps safe (fun u waiting => ?_) kept h row fits
      obtain ⟨commands, bits⟩ := Prod.mk.inj (Prod.mk.inj (off u).wire).2
      exact ⟨commands.trans waiting.1, bits.trans waiting.2⟩
    · exact Prod.mk.inj (Prod.mk.inj same).2
  · cases i with
    | setAddress h part =>
      refine answering_keeps safe (fun u waiting => ?_) kept next
      unfold setAddress
      split <;> exact waiting
    | stationsWrite h f =>
      refine answering_keeps safe (fun u waiting => ?_) kept next
      unfold stationsWrite
      split <;> exact waiting
    | joinRing h =>
      refine answering_keeps safe (fun u waiting => ?_) kept next
      unfold joinRing
      split <;> exact waiting
    | leaveRing h =>
      refine answering_keeps safe (fun u waiting => ?_) kept next
      unfold leaveRing
      split <;> exact waiting
    | countersClear h => exact answering_keeps (run := countersClear) safe (fun _ waiting => waiting) kept next
    | restart h =>
      exact answering_keeps (run := fun u => (u.restart, .done [])) safe (fun _ waiting => waiting) kept next
    | poll dest source =>
      obtain rfl := Host.Outcome.next.inj next
      simp only [State.pollFrame]
      (repeat' split) <;> exact kept
    | frameDiscard content =>
      obtain rfl := Host.Outcome.next.inj next
      unfold State.discardFrame
      split <;> exact kept
    | longFrame | abort | idleRun | takeTurn | replySent | turnEnd | cutEnd | turnCut | delimiterReceived | powerOn =>
      exact Host.Outcome.next.inj next ▸ kept
    | _ => exact absurd rfl moves

theorem exec_leadsOn (i : Instr) (s : State) :
    ∃ t, exec i s = .next t ∧ t.pending = s.pending ∧ t.ringIn = s.ringIn := by
  obtain ⟨t, next⟩ := exec_next i s
  exact ⟨t, next, exec_waiting next⟩

/-! ## A bit time -/

theorem step_idle {s : State} (none : s.pending = []) : step s = .next s.idle := by rw [step, none]

theorem idle_quiet {s : State} (quiet : s.ringIn = []) : s.idle = s := by rw [State.idle, quiet]

theorem idle_bit {s : State} {b : Bool} {rest : List Bool} (bits : s.ringIn = b :: rest) :
    s.idle = s.ringBit b rest := by
  rw [State.idle, bits]

/-! ## The bit receiver -/

section Receiving

variable {r : Receiver}

theorem bit_one (r : Receiver) : r.bit true = r.one := rfl

theorem bit_zero (r : Receiver) : r.bit false = r.zero := rfl

/-- A 1 after a delimiter opens a frame. -/
theorem one_opened (opened : r.state = .opened) :
    r.one = ({ r with state := .inFrame, fresh := true, content := [], ones := 1 }, none) := by
  simp [Receiver.one, opened]

/-- The sixth 1 of a run in a frame is a release or an abort. -/
theorem one_sixth (frame : r.state = .inFrame) (ones : r.ones = 5) : r.one =
    ({ r with state := .hunt, content := [], ones := 6 }, some (if r.fresh = true then .release else .abort)) := by
  simp [Receiver.one, Receiver.hunting, frame, ones]

/-- Any other 1 counts, and the twelfth of a run is an idle run. -/
theorem one_counts (apart : r.state ≠ .opened) (sixth : ¬(r.state = .inFrame ∧ r.ones = 5)) :
    r.one = ({ r with ones := min 12 (r.ones + 1) }, if r.ones = 11 then some .idle else none) := by
  have counted : (if r.ones < 12 then r.ones + 1 else 12) = min 12 (r.ones + 1) := by
    split <;> omega
  have six : ¬(min 12 (r.ones + 1) = 6 ∧ r.state = .inFrame) := fun ⟨six, frame⟩ => sixth ⟨frame, by omega⟩
  have twelfth : (min 12 (r.ones + 1) = 12 ∧ r.ones < 12) ↔ r.ones = 11 := by omega
  simp only [Receiver.one, apart, if_false, counted, six, twelfth]
  split <;> rfl

theorem zero_hunt (hunt : r.state = .hunt) : r.zero =
    if r.ones = 5 ∧ r.afterZero = true then (.atDelimiter, some .delimiter)
    else ({ r with ones := 0, afterZero := true, fresh := false }, none) := by
  simp [Receiver.zero, hunt]

/-- A 0 after a delimiter opens a frame with its first content bit. -/
theorem zero_opened (opened : r.state = .opened) : r.zero =
    ({ r with state := .inFrame, ones := 0, afterZero := true, fresh := false, content := [false], zeroKept := true },
      none) := by
  simp [Receiver.zero, opened]

/-- A 0 after five 1s closes the frame, the leading 0 of the delimiter being no content. -/
theorem zero_closes (frame : r.state = .inFrame) (ones : r.ones = 5) : r.zero =
    (.atDelimiter, some (.closed (if r.zeroKept = true then r.content.dropLast else r.content))) := by
  simp [Receiver.zero, frame, ones]

/-- Any other 0 in a frame takes the run before it as content, and itself unless it is a stuffing bit; the 257th octet makes the frame long. -/
theorem zero_gathers (frame : r.state = .inFrame) (ones : r.ones ≠ 5) : r.zero =
    if Config.longFrameBits ≤ r.gathered.length then
      ({ r with ones := 0, afterZero := true, fresh := false, state := .hunt, content := [] }, some .long)
    else
      ({ r with ones := 0, afterZero := true, fresh := false, content := r.gathered, zeroKept := decide (r.ones < 4) },
        none) := by
  simp only [Receiver.zero, frame, ones, if_false]
  rfl

end Receiving

/-- The commands of a bit time: what the last bit driven ends, then what the bit received brings about (log entry 15). -/
theorem bitEvents_eq (r : RingPort) (b : Bool) : r.bitEvents b =
    (if r.state = .active ∧ r.toDrive.length = 1 then r.phase.event else []) ++
      ((r.rx.bit b).2.map r.receivedEvent).toList := rfl

/-- Settles O2: every command answers a next state and leaves what waits alone; the idle step, a bit time's commands, and the receiver bit by bit. -/
theorem stepsAlwaysLeadOn : Obligations.StepsAlwaysLeadOn := by
  refine ⟨exec_leadsOn, fun s none => ⟨fun quiet => ?_, fun b rest bits => ?_⟩, fun r b => ?_, fun r => ?_⟩
  · rw [step_idle none, idle_quiet quiet]
  · rw [step_idle none, idle_bit bits, State.ringBit, none]
    rfl
  · rw [bitEvents_eq]
    congr 1
    cases (r.rx.bit b).2 with
    | none => rfl
    | some event =>
      cases event with
      | delimiter =>
        simp only [Option.map_some, RingPort.receivedEvent]
        split <;> rfl
      | closed | abort | long | release | idle => rfl
  · exact ⟨one_opened, one_sixth, one_counts, zero_hunt, zero_opened, zero_closes, zero_gathers⟩

/-! ## Notices and counters -/

/-- The attention line of a settled notice unit: some pending kind is enabled (R186). -/
theorem attention_settled_iff (n : NoticeUnit) : n.settle.attention = true ↔
    ∃ j : Fin 11, n.entries[j].pending = true ∧ n.mask.getLsbD j = true := by
  simp [NoticeUnit.settle]

/-- A table of saturating counters after a count in one of them (R182, 3.5). -/
theorem counters_set {m : Nat} (counters : Vector Nat m) (c j : Fin m) (n : Nat) :
    (counters.set c (countBy n counters[c]))[j] = if j = c then min 65535 (counters[j] + n) else counters[j] := by
  by_cases same : j = c
  · subst same
    simp [countBy, Config.counterTop]
  · have apart : c.val ≠ j.val := fun eq => same (Fin.ext eq.symm)
    simp [same, apart]

/-- Settles O4: the raised entry and the others, the line, and a count in either family of counters. -/
theorem raisesAndCounts : Obligations.RaisesAndCounts := by
  refine ⟨fun s k subject => ⟨?_, fun j apart => ?_, rfl, ?_, rfl⟩, fun r c j => counters_set r.counters c.idx j 1,
    fun p c n j => counters_set p.counters c.idx j n⟩
  · rw [raise_entry, if_pos rfl]
    rfl
  · rw [raise_entry, if_neg (Ne.symm apart)]
  · rw [← raise_settled]
    exact attention_settled_iff _

end Sys2Proof.Proofs

/-! SUPPORT. Requests that are shed, denied or malformed, and requests that are not for the part: what the code and the header alone decide. -/

namespace Sys2Proof.Proofs

open Sys2Proof.Machine Sys2Proof.Laws

/-! ## Every request command -/

/-- What a request command comes to: the receipt of a request with its header and code. MALFORMED alone fails check 2; every other command has the row of its code, and RESTART alone has the code that a broadcast may carry (R166, R170, R202). -/
structure Requests (i : Instr) (h : Header) (code : Byte) (row : RequestRow) (fits : Bool)
    (run : State → State × Answer) : Prop where
  meaning : ∀ s, exec i s = .next (s.request h row fits run)
  coded : row.code = code
  malformed : fits = false ↔ ∃ c b, i = .malformed h c b
  known : fits = true → codeRow code = some row
  restart : fits = true → code = restartCode → i = .restart h

theorem exec_requests {i : Instr} {h : Header} {code : Byte} {body : List Byte}
    (octets : requestOctets i = some (h, code, body)) : ∃ row fits run, Requests i h code row fits run := by
  cases i with
  | ignoredBroadcast | poll | frameDiscard | longFrame | abort | idleRun | takeTurn | replySent | turnEnd | turnCut
  | cutEnd | entryChange | litEdge | darkEdge | advancePulse | stall | spinPulse | indexPulse | spinTimeout | headReport
  | corrupt | stray | silenceTimeout | shotService | rejudgeStep | powerOn | lineIdleGap | delimiterReceived =>
    exact nomatch octets
  | malformed =>
    obtain ⟨rfl, rfl, rfl⟩ := octets
    exact ⟨_, false, _, fun _ => rfl, rfl, iff_of_true rfl ⟨_, _, rfl⟩, nofun, nofun⟩
  | restart =>
    obtain ⟨rfl, rfl, rfl⟩ := octets
    exact ⟨_, true, _, fun _ => rfl, rfl, iff_of_false nofun nofun, fun _ => rfl, fun _ _ => rfl⟩
  | _ =>
    cases octets
    exact ⟨_, true, _, fun _ => rfl, rfl, iff_of_false nofun nofun, fun _ => rfl, nofun⟩

/-! ## Shed requests -/

/-- A broadcast RESTART from address 1 is admitted as a request for the part (R166). -/
theorem restart_broadcast {s : State} {h : Header} (source : h.source = 1) (broadcast : h.dest = 0)
    (run : State → State × Answer) :
    s.request h rowRestart true run = s.frameIn.admitted h rowRestart true run := by
  have known : h.source ≠ 0 := by rw [source]; decide
  simp only [State.request, if_neg known, if_pos broadcast]
  exact if_pos ⟨rfl, source, trivial⟩

theorem joinRing_state (s : State) : (joinRing s).1 = if s.ring.state = .offRing then
    { s with ring := { s.ring with state := .joining, bypass := true, ringOut := none } } else s := by
  unfold joinRing
  split <;> rfl

theorem joinRing_replies (s : State) : (joinRing s).1.ring.replies = s.ring.replies := by
  unfold joinRing
  split <;> rfl

section Full

variable {s : State} {h : Header} (source : h.source ≠ 0) (single : h.dest ≠ 0) (part : h.dest = s.ring.address)
  (full : Config.replyPlaces ≤ s.ring.replies.length)
include source single part full

/-- JOIN RING at a full reply queue is carried out without a reply (R173). -/
theorem joinRing_full (right : s.ring.permits h.source (some .setup) = true) :
    exec (.joinRing h) s = .next (joinRing s.frameIn).1 := by
  have full : Config.replyPlaces ≤ (joinRing s.frameIn).1.ring.replies.length := by
    rw [joinRing_replies]
    simpa using full
  show Host.Outcome.next (s.request h rowJoinRing true joinRing) = _
  rw [request_part source single part]
  simp [State.admitted, right, rowJoinRing, enqueue_full full]

/-- A JOIN RING without its right at a full reply queue counts one DENIED (R173). -/
theorem joinRing_full_denied (lacks : s.ring.permits h.source (some .setup) = false) :
    exec (.joinRing h) s = .next (s.frameIn.countRing .denied) := by
  have full : Config.replyPlaces ≤ (s.frameIn.countRing .denied).ring.replies.length := by
    simpa [State.countRing] using full
  show Host.Outcome.next (s.request h rowJoinRing true joinRing) = _
  rw [request_part source single part]
  simp [State.admitted, lacks, rowJoinRing, enqueue_full full]

/-- A malformed JOIN RING at a full reply queue closes its frame and nothing else (log entry 17). -/
theorem joinRing_full_malformed (body : List Byte) : exec (.malformed h 0x52 body) s = .next s.frameIn := by
  have full : Config.replyPlaces ≤ s.frameIn.ring.replies.length := by simpa using full
  show Host.Outcome.next (s.request h _ false _) = _
  rw [request_part source single part]
  simp [State.admitted, joinCode, enqueue_full full]

end Full

/-- Settles O5: every other code is shed before any check, so is the broadcast RESTART; JOIN RING goes on to its checks. -/
theorem fullReplyQueueSheds : Obligations.FullReplyQueueSheds := by
  refine ⟨fun i h code body s octets other source single part full => ?_, fun h s source broadcast full => ?_,
    fun h s source single part full => ⟨fun right => ?_, joinRing_full_denied source single part full,
      joinRing_full_malformed source single part full⟩⟩
  · obtain ⟨row, fits, run, requests⟩ := exec_requests octets
    have other : row.code ≠ joinCode := by rw [requests.coded]; exact other
    rw [requests.meaning, request_shed source single part full other]
    rfl
  · have full : Config.replyPlaces ≤ s.frameIn.ring.replies.length := by
      rw [frameIn_ring, frame_replies]
      exact full
    show Host.Outcome.next (s.request h rowRestart true _) = _
    rw [restart_broadcast source broadcast, State.admitted, if_pos ⟨full, by decide⟩]
    rfl
  · rw [joinRing_full source single part full right, joinRing_state]

/-! ## Denied requests -/

/-- A source other than address 1 holds no right that no station entry of its address holds (R168). -/
theorem permits_false {r : RingPort} {source : Byte} {need : Option Right} (other : source ≠ 1)
    (lacks : ∀ right, need = some right → ∀ (k : Fin Config.stationEntries) st, r.stations[k] = some st →
      st.address = source → hasRight st.rights right = false) : r.permits source need = false := by
  cases need with
  | none => simpa [RingPort.permits] using other
  | some right =>
    simp only [RingPort.permits, other, decide_false, Bool.false_or, List.any_eq_false]
    intro entry mem
    obtain ⟨k, small, is⟩ := List.getElem_of_mem mem
    have small : k < Config.stationEntries := by simpa using small
    cases entry with
    | none => exact Bool.false_ne_true
    | some st =>
      have held := lacks right rfl ⟨k, small⟩ st (by simpa using is)
      simpa using held

/-- Settles O6: the right is that of the code's row, and the lack of it is found after the length. -/
theorem missingRightIsDenied : Obligations.MissingRightIsDenied := by
  intro i h code body row s octets formed known source single part room other lacks
  obtain ⟨row', fits, run, requests⟩ := exec_requests octets
  have fits : fits = true := by
    rw [← Bool.not_eq_false, requests.malformed]
    exact fun ⟨c, b, is⟩ => formed c b is
  subst fits
  obtain rfl : row' = row := Option.some.inj ((requests.known rfl).symm.trans known)
  rw [requests.meaning, request_denied source single part room (permits_false other lacks), requests.coded]

/-! ## Requests that reach no block -/

theorem request_unsourced {s : State} {h : Header} {row : RequestRow} (unsourced : h.source = 0) (fits : Bool)
    (run : State → State × Answer) : s.request h row fits run = s.frameIn.countRing .format := by
  simp only [State.request, if_pos unsourced]

/-- A broadcast that is no RESTART from address 1 gets no reply and is counted (R166). -/
theorem request_broadcast {s : State} {h : Header} {row : RequestRow} {fits : Bool} (source : h.source ≠ 0)
    (broadcast : h.dest = 0) (ignored : ¬(row.code = restartCode ∧ h.source = 1 ∧ fits = true))
    (run : State → State × Answer) : s.request h row fits run = s.frameIn.countRing .ignoredBroadcast := by
  simp only [State.request, if_neg source, if_pos broadcast, if_neg ignored]

/-- A request for the part that check 2 refuses is answered MALFORMED (R170). -/
theorem request_malformed {s : State} {h : Header} {row : RequestRow} (source : h.source ≠ 0) (single : h.dest ≠ 0)
    (part : h.dest = s.ring.address) (room : s.ring.replies.length < Config.replyPlaces)
    (run : State → State × Answer) : s.request h row false run = s.frameIn.answered h row.code .malformed [] := by
  have framed : s.frameIn.ring.replies.length < Config.replyPlaces := by simpa using room
  rw [request_part source single part]
  simp [State.admitted, Nat.not_le.mpr room, enqueue_room framed]

/-- Settles O7: MALFORMED for the part, then source 0, another station and a broadcast by the header alone. -/
theorem requestsThatReachNoBlock : Obligations.RequestsThatReachNoBlock := by
  refine ⟨fun h code body s source single part room => ?_, fun i h code body s octets => ?_,
    fun source code body s known => ?_⟩
  · exact congrArg Host.Outcome.next (request_malformed source single part room _)
  · obtain ⟨row, fits, run, requests⟩ := exec_requests octets
    refine ⟨fun unsourced => ?_, fun source single elsewhere => ?_, fun source broadcast other => ?_⟩
    · rw [requests.meaning, request_unsourced unsourced]
    · rw [requests.meaning, request_elsewhere source single elsewhere]
    · rw [requests.meaning, request_broadcast source broadcast]
      rintro ⟨restart, first, rfl⟩
      exact other ⟨requests.restart rfl (requests.coded ▸ restart), first⟩
  · exact congrArg Host.Outcome.next (request_broadcast known rfl (fun ⟨_, _, fits⟩ => nomatch fits) _)

end Sys2Proof.Proofs

/-! SUPPORT. SET ADDRESS, JOIN RING, LEAVE RING and STATIONS WRITE. -/

namespace Sys2Proof.Proofs

open Sys2Proof.Machine Sys2Proof.Laws

/-! ## SET ADDRESS -/

theorem setAddress_refused {part : Byte} {s : State}
    (bad : 15 < part.toNat ∨ part.toNat * 4 + s.ring.strap.toNat < 2) :
    setAddress part s = (s, .refuse .range) :=
  if_pos (bad.imp id fun low => Nat.le_of_lt_succ low)

/-- SET ADDRESS answers the old and the new address and holds the new part (R165). -/
theorem setAddress_held {part : Byte} {s : State}
    (good : ¬(15 < part.toNat ∨ part.toNat * 4 + s.ring.strap.toNat < 2)) : setAddress part s =
      (s, { outcome := .done, body := [s.ring.address, BitVec.ofNat 8 (part.toNat * 4 + s.ring.strap.toNat)],
            effect := .address (BitVec.ofNat 4 part.toNat) }) := by
  have good : ¬(part.toNat > 15 ∨ addressOf part.toNat s.ring.strap.toNat ≤ 1) :=
    fun bad => good (bad.imp id fun low => Nat.lt_succ_of_le low)
  exact if_neg good

/-! ## JOIN RING and LEAVE RING -/

theorem joinRing_admitted {s : State} {h : Header} (ok : s.Admits h rowJoinRing) :
    exec (.joinRing h) s = .next ((joinRing s.frameIn).1.answered h 0x52 .done []) :=
  answering_admitted ok joinRing (by simpa [joinRing_replies] using ok.room)

theorem leaveRing_replies (s : State) : (leaveRing s).1.ring.replies = s.ring.replies := by
  unfold leaveRing
  split <;> rfl

theorem leaveRing_admitted {s : State} {h : Header} (ok : s.Admits h rowLeaveRing) :
    exec (.leaveRing h) s = .next ((leaveRing s.frameIn).1.answered h 0x53 (leaveRing s.frameIn).2.outcome
      (leaveRing s.frameIn).2.body (leaveRing s.frameIn).2.effect) :=
  answering_admitted ok leaveRing (by simpa [leaveRing_replies] using ok.room)

/-- Settles O46: SET ADDRESS by its two checks, then the two commands by the ring state that their frame leaves. -/
theorem addressAndRingMembership : Obligations.AddressAndRingMembership := by
  refine ⟨fun s h part ok => ?_, fun s h => ⟨fun ok => ?_, fun ok => ?_⟩⟩
  · dsimp only
    have strap : s.frameIn.ring.strap = s.ring.strap := frame_strap s.ring
    have address : s.frameIn.ring.address = s.ring.address := frame_address s.ring
    split
    · rename_i bad
      exact answering_refused ok (setAddress_refused (strap ▸ bad))
    · rename_i good
      refine (answering_ran ok (setAddress_held (strap ▸ good)) rfl).trans ?_
      rw [strap, address]
      rfl
  · rw [joinRing_admitted ok, joinRing_state]
  · rw [leaveRing_admitted ok]
    unfold leaveRing
    cases s.frameIn.ring.state <;> rfl

/-! ## STATIONS WRITE -/

section Writing

variable {f : StationFields} {held : Vector (Option Station) Config.stationEntries}

theorem carriesOne_iff {k : Fin Config.stationEntries} :
    carriesOne f k = true ↔ ∃ rights, f.entries[k] = some (1, rights) := by
  simp [carriesOne, selected_iff]

/-- Rights beyond the six show as bits above bit 5 (R169, R199). -/
theorem beyondRights_iff (rights : Byte) : rights &&& ~~~0x3F#8 ≠ 0 ↔ 64 ≤ rights.toNat := by
  revert rights
  decide +kernel

theorem carriesWrong_iff {k : Fin Config.stationEntries} :
    carriesWrong f k = true ↔ ∃ a rights, f.entries[k] = some (a, rights) ∧ 64 ≤ rights.toNat := by
  simp only [carriesWrong, selected_iff, decide_eq_true_iff, beyondRights_iff]

theorem repeatsAddress_iff {k : Fin Config.stationEntries} : repeatsAddress f held k = true ↔ f.entries[k] ≠ none ∧
    ∃ st j, (StationFields.result f held)[k] = some st ∧ j ≠ k ∧
      ((StationFields.result f held)[j].map Station.address) = some st.address := by
  have selected : (∃ a rights, f.entries[k] = some (a, rights) ∧ true = true) ↔ f.entries[k] ≠ none := by
    cases f.entries[k] with
    | none => simp
    | some carried => exact iff_of_true ⟨_, _, rfl, rfl⟩ nofun
  rw [repeatsAddress, Bool.and_eq_true, selected_iff, selected, sharesAddress_iff]

/-- The lowest entry that fails a check is the one it names. -/
theorem firstEntry_first {fails : Fin Config.stationEntries → Bool} {o : ReplyCode} {k : Fin Config.stationEntries}
    (failed : fails k = true) (earlier : ∀ j < k, ¬fails j = true) : firstEntry fails o = some (o, k.val + 1) := by
  rw [firstEntry, entryOrder, find_finRange failed fun j before => Bool.eq_false_iff.mpr (earlier j before)]
  rfl

theorem firstEntry_passed {fails : Fin Config.stationEntries → Bool} {o : ReplyCode} (passed : ∀ k, ¬fails k = true) :
    firstEntry fails o = none :=
  firstEntry_none_iff.mpr fun k => Bool.eq_false_iff.mpr (passed k)

variable {s : State} {h : Header} (ok : s.Admits h rowStationsWrite)
include ok

theorem stationsWrite_refused {o : ReplyCode} {n : Nat} (failed : StationFields.fault f s.ring.stations = some (o, n)) :
    exec (.stationsWrite h f) s =
      .next (s.frameIn.answered h 0x51 o (BitVec.ofNat 8 n :: stationOctets s.ring.stations)) := by
  have ran : stationsWrite f s.frameIn = (s.frameIn, .refuse o n (stationOctets s.ring.stations)) := by
    simp [stationsWrite, failed]
  exact answering_ran ok ran rfl

theorem stationsWrite_written (passed : StationFields.fault f s.ring.stations = none) :
    exec (.stationsWrite h f) s = .next (State.answered
      { s.frameIn with ring := { s.frameIn.ring with stations := StationFields.result f s.ring.stations } } h 0x51 .done
      (stationOctets (StationFields.result f s.ring.stations))) := by
  have ran : stationsWrite f s.frameIn =
      (s.frameIn.setRing { s.frameIn.ring with stations := StationFields.result f s.ring.stations },
        .done (stationOctets (StationFields.result f s.ring.stations))) := by
    simp [stationsWrite, passed]
  have room : (stationsWrite f s.frameIn).1.ring.replies.length < Config.replyPlaces := by
    rw [ran]
    simpa using ok.room
  refine (answering_admitted ok _ room).trans ?_
  rw [ran]
  rfl

end Writing

/-- Settles O47: each check in its turn by the lowest entry that fails it, and the table written when none does. -/
theorem stationsWriteReplacesEntries : Obligations.StationsWriteReplacesEntries := by
  intro s h f ok
  refine ⟨StationFields.result f s.ring.stations, fun k => ⟨fun unselected => result_unselected unselected _,
    fun a rights selected => result_selected selected _⟩, fun high => ?_, fun k named one before => ?_,
    fun k named noOne wrong before => ?_, fun k named noOne noWrong twice before => ?_,
    fun named noOne noWrong noTwice => ?_⟩
  · refine stationsWrite_refused ok ?_
    rw [fault_eq, if_pos high]
  · simp only [← carriesOne_iff] at one before
    refine stationsWrite_refused ok ?_
    rw [fault_eq, if_neg (not_not.mpr named), firstEntry_first one before]
    rfl
  · simp only [← carriesOne_iff, ← carriesWrong_iff] at noOne wrong before
    refine stationsWrite_refused ok ?_
    rw [fault_eq, if_neg (not_not.mpr named), firstEntry_passed noOne, firstEntry_first wrong before]
    rfl
  · simp only [← carriesOne_iff, ← carriesWrong_iff, ← repeatsAddress_iff] at noOne noWrong twice before
    refine stationsWrite_refused ok ?_
    rw [fault_eq, if_neg (not_not.mpr named), firstEntry_passed noOne, firstEntry_passed noWrong,
      firstEntry_first twice before]
    rfl
  · simp only [← carriesOne_iff, ← carriesWrong_iff, ← repeatsAddress_iff] at noOne noWrong noTwice
    refine stationsWrite_written ok ?_
    rw [fault_eq, if_neg (not_not.mpr named), firstEntry_passed noOne, firstEntry_passed noWrong,
      firstEntry_passed noTwice]
    rfl

end Sys2Proof.Proofs

/-! SUPPORT. Joining, the taking of a turn, the sending of replies, and the end of a turn or a cut. -/

namespace Sys2Proof.Proofs

open Sys2Proof.Machine Sys2Proof.Laws

section Turn

variable {r : RingPort}

/-! ## Joining and taking a turn -/

/-- The twelfth 1 of an idle run takes a JOINING part ON_RING, with no bit waiting to be repeated (R175). -/
theorem idleRun_eq (r : RingPort) : r.idleRun = if r.state = .joining then
    { r with rx := r.rx.huntingAt 12, state := .onRing, bypass := false, held := none }
    else { r with rx := r.rx.huntingAt 12 } := by
  simp only [RingPort.idleRun]
  split <;> rfl

/-- Without a reply, a permit or the ring, a release only moves the receiver. -/
theorem takeTurn_passed (lacks : r.replies = [] ∨ r.permit = false ∨ r.state ≠ .onRing) :
    r.takeTurn = { r with rx := r.rx.huntingAt 6 } := by
  unfold RingPort.takeTurn
  split
  · rfl
  · rename_i reply rest queue
    have idle : ¬(r.state = .onRing ∧ r.permit = true) := by
      rintro ⟨onRing, permit⟩
      rcases lacks with empty | without | off
      · exact nomatch queue.symm.trans empty
      · exact nomatch permit.symm.trans without
      · exact off onRing
    exact if_neg idle

/-- With a permit and a reply, a release gives the part ON_RING the turn (R179). -/
theorem takeTurn_taken {reply : Reply} {rest : List Reply} (queue : r.replies = reply :: rest)
    (permit : r.permit = true) (onRing : r.state = .onRing) : r.takeTurn =
      { r with
        rx := r.rx.huntingAt 6, state := .active, bypass := false, phase := .sending, sentInTurn := 0
        leaveMarked := false, toDrive := frameAfterOnes reply.octets } := by
  simp only [RingPort.takeTurn, queue, onRing, permit, and_self, if_true]
  rfl

/-! ## Replies sent -/

/-- A sent reply's effect: a new part of the address, or the mark of a leave (R180). -/
theorem applyEffect_eq (r : RingPort) (effect : ReplyEffect) : r.applyEffect effect =
    { r with
      part := match effect with
        | .address part => part
        | _ => r.part
      leaveMarked := r.leaveMarked || decide (effect = .leave) } := by
  cases effect <;> simp [RingPort.applyEffect]

theorem replySent_quiet (quiet : r.state ≠ .active ∨ r.phase ≠ .sending ∨ r.replies = []) : r.replySent = r := by
  unfold RingPort.replySent
  split
  · rfl
  · rename_i sent rest queue
    have idle : ¬(r.state = .active ∧ r.phase = .sending) := by
      rintro ⟨active, sending⟩
      rcases quiet with apart | other | empty
      · exact apart active
      · exact other sending
      · exact nomatch queue.symm.trans empty
    exact if_neg idle

/-- The reply sent leaves the queue, takes its effect and is counted; then the turn goes on or ends (R180). -/
theorem replySent_sent {sent : Reply} {rest : List Reply} (active : r.state = .active) (sending : r.phase = .sending)
    (queue : r.replies = sent :: rest) : r.replySent =
      RingPort.goOn { r.applyEffect sent.effect with replies := rest, sentInTurn := r.sentInTurn + 1 } sent.effect := by
  simp [RingPort.replySent, queue, active, sending]

theorem goOn_ends {effect : ReplyEffect} (ends : 8 ≤ r.sentInTurn ∨ r.replies = [] ∨ effect = .leave) :
    r.goOn effect = { r with permit := false, phase := .releasing, toDrive := releaseBits } :=
  if_pos (decide_eq_true ends)

theorem goOn_next {effect : ReplyEffect} {next : Reply} {more : List Reply} (few : r.sentInTurn < 8)
    (queue : r.replies = next :: more) (stays : effect ≠ .leave) :
    r.goOn effect = { r with toDrive := frameAfterFrame next.octets } := by
  have goes : ¬turnEnds r.sentInTurn effect r.replies = true := by
    simp [turnEnds, Config.turnReplies, few, queue, stays]
  rw [RingPort.goOn, if_neg goes, queue]

/-! ## The end of a turn -/

theorem turnEnd_quiet (quiet : r.state ≠ .active ∨ r.phase ≠ .releasing) : r.turnEnd = r :=
  if_neg (not_and_or.mpr quiet)

theorem turnEnd_released (active : r.state = .active) (releasing : r.phase = .releasing) :
    r.turnEnd = r.leaveActive (if r.leaveMarked then .offRing else .onRing) :=
  if_pos ⟨active, releasing⟩

theorem cutEnd_quiet (quiet : r.state ≠ .active ∨ r.phase ≠ .cutting) : r.cutEnd = r :=
  if_neg (not_and_or.mpr quiet)

theorem cutEnd_driven (active : r.state = .active) (cutting : r.phase = .cutting) :
    r.cutEnd = r.leaveActive .onRing :=
  if_pos ⟨active, cutting⟩

/-- The ring port after a turn, OFF_RING when the part leaves and else ON_RING; no bit waits to be repeated (R180, R181; log entry 16). -/
theorem leaveActive_eq (r : RingPort) (off : Bool) : r.leaveActive (if off then .offRing else .onRing) =
    { r with
      state := if off then .offRing else .onRing, bypass := off, ringOut := if off then none else r.ringOut
      phase := .none, sentInTurn := 0, leaveMarked := false, toDrive := [], held := none } := by
  cases off <;> rfl

end Turn

/-- Settles O49: each event of joining and turns, first where it finds nothing to do and then where it moves the port. -/
theorem turnsSendReplies : Obligations.TurnsSendReplies := by
  intro s
  have ring {i : Instr} {r : RingPort} {t : State} (meaning : exec i s = .next (s.setRing r)) (is : s.setRing r = t) :
      exec i s = .next t := meaning.trans (congrArg _ is)
  refine ⟨ring rfl (congrArg _ (idleRun_eq _)), fun lacks => ring rfl (congrArg _ (takeTurn_passed lacks)),
    fun reply rest queue permit onRing => ring rfl (congrArg _ (takeTurn_taken queue permit onRing)),
    fun quiet => ring rfl (congrArg _ (replySent_quiet quiet)), fun sent rest active sending queue => ?_,
    fun quiet => ring rfl (congrArg _ (turnEnd_quiet quiet)), fun active releasing => ?_,
    fun quiet => ring rfl (congrArg _ (cutEnd_quiet quiet)), fun active cutting => ?_⟩
  · have effected := replySent_sent active sending queue
    rw [applyEffect_eq] at effected
    refine ⟨fun ends => ?_, fun next more few rest_eq stays => ?_⟩
    · exact ring rfl (congrArg _ (effected.trans (goOn_ends ends)))
    · exact ring rfl (congrArg _ (effected.trans (goOn_next few rest_eq stays)))
  · exact ring rfl (congrArg _ ((turnEnd_released active releasing).trans (leaveActive_eq _ _)))
  · exact ring rfl (congrArg _ ((cutEnd_driven active cutting).trans (leaveActive_eq _ false)))

end Sys2Proof.Proofs

/-! SUPPORT. What arrives on RING IN without a request: delimiters, POLL frames, aborts, long frames, and the checks of a closed frame. -/

namespace Sys2Proof.Proofs

open Sys2Proof.Machine Sys2Proof.Laws

/-! ## The checks of a closed frame -/

/-- A frame of five octets or more is checked for its check field, then for its kind, length and source (R162). -/
theorem frameCheck_octets {octets : List Byte} (long : 5 ≤ octets.length) : frameCheck (bitsOf octets) =
    if octets ≠ withCheck (octets.take (octets.length - 2)) then .discarded .check
    else if kindPasses octets = true then .passed octets else .discarded .format := by
  have bits := bitsOf_length octets
  have some : ¬(bitsOf octets).length < 40 := by omega
  have whole : ¬(bitsOf octets).length % 8 ≠ 0 := by omega
  simp only [frameCheck, if_neg some, if_neg whole, octetsOf_bitsOf]

theorem frameCheck_short {content : List Bool} (short : content.length < 40) : frameCheck content = .ignored :=
  if_pos short

theorem frameCheck_uneven {content : List Bool} (long : 40 ≤ content.length) (uneven : content.length % 8 ≠ 0) :
    frameCheck content = .discarded .format := by
  rw [frameCheck, if_neg (Nat.not_lt.mpr long), if_pos uneven]

/-- Only a CHECK or a FORMAT fault discards a frame (R162). -/
theorem frameCheck_discarded {content : List Bool} {c : RingCounter} (discarded : frameCheck content = .discarded c) :
    c = .check ∨ c = .format := by
  simp only [frameCheck] at discarded
  split at discarded
  · exact nomatch discarded
  · split at discarded
    · exact .inr (FrameCheck.discarded.inj discarded).symm
    · split at discarded
      · exact .inl (FrameCheck.discarded.inj discarded).symm
      · split at discarded
        · exact nomatch discarded
        · exact .inr (FrameCheck.discarded.inj discarded).symm

/-- A two-octet field, low octet first, is its two octets (R199). -/
theorem le_two (v : Half) : le 2 v.toNat = [v.extractLsb' 0 8, v.extractLsb' 8 8] := by
  have low : BitVec.ofNat 8 v.toNat = v.extractLsb' 0 8 := by
    apply BitVec.eq_of_toNat_eq
    simp
  have high : BitVec.ofNat 8 (v.toNat / 256) = v.extractLsb' 8 8 := by
    apply BitVec.eq_of_toNat_eq
    simp [Nat.shiftRight_eq_div_pow]
  rw [le, le, le, low, high]

theorem withCheck_eq (octets : List Byte) : withCheck octets =
    octets ++ [(checkOf (bitsOf octets)).extractLsb' 0 8, (checkOf (bitsOf octets)).extractLsb' 8 8] := by
  rw [withCheck, le_two]

theorem kindPasses_cons (dest source kind : Byte) (rest : List Byte) : kindPasses (dest :: source :: kind :: rest) =
    if kind = kindPoll then decide (rest.length = 2 ∧ source ≠ 0)
    else if kind = kindRequest then decide (4 ≤ rest.length ∧ source ≠ 0)
    else decide (kind = kindReply) := rfl

/-- Check 4 passes a REQUEST and a POLL of their lengths from a source, and any REPLY (R162). -/
theorem kindPasses_iff (dest source kind : Byte) (rest : List Byte) :
    kindPasses (dest :: source :: kind :: rest) = true ↔
    (kind = 1 ∧ 4 ≤ rest.length ∧ source ≠ 0) ∨ kind = 2 ∨ (kind = 3 ∧ rest.length = 2 ∧ source ≠ 0) := by
  rw [kindPasses_cons]
  by_cases poll : kind = kindPoll
  · subst poll
    simp [kindPoll]
  · by_cases request : kind = kindRequest
    · subst request
      simp [kindPoll, kindRequest]
    · have other : kind ≠ 3 := poll
      have another : kind ≠ 1 := request
      rw [if_neg poll, if_neg request, decide_eq_true_iff]
      simp only [other, another, false_and, or_false, false_or]
      rfl

theorem frameCommand_ignored {content : List Bool} (ignored : frameCheck content = .ignored) (address : Byte) :
    frameCommand address content = .delimiterReceived := by rw [frameCommand, ignored]

theorem frameCommand_discarded {content : List Bool} {c : RingCounter} (discarded : frameCheck content = .discarded c)
    (address : Byte) : frameCommand address content = .frameDiscard content := by rw [frameCommand, discarded]

theorem frameCommand_passed {content : List Bool} {octets : List Byte} (passed : frameCheck content = .passed octets)
    (address : Byte) : frameCommand address content = passedCommand address octets := by rw [frameCommand, passed]

/-- A frame for another station and a REPLY are delimiters alone (R162 check 5, R163). -/
theorem passedCommand_ignored {address dest source kind : Byte} {rest : List Byte}
    (apart : dest ≠ 0 ∧ dest ≠ address ∨ kind = 2) :
    passedCommand address (dest :: source :: kind :: rest) = .delimiterReceived := by
  rcases apart with elsewhere | rfl
  · exact if_pos elsewhere
  · simp [passedCommand, kindPoll, kindRequest]

theorem passedCommand_poll {address dest source : Byte} {rest : List Byte} (here : dest = 0 ∨ dest = address) :
    passedCommand address (dest :: source :: 3 :: rest) = .poll dest source := by
  have here : ¬(dest ≠ 0 ∧ dest ≠ address) := by tauto
  simp only [passedCommand, if_neg here]
  rfl

/-! ## What a frame moves -/

/-- A release or a cut that a frame finds is driven whole: the part has left the ring, or stays on it, with nothing more to drive. -/
theorem driven_eq (r : RingPort) : r.turnEnd.cutEnd =
    let off := decide (r.phase = .releasing) && r.leaveMarked
    if r.state = .active ∧ (r.phase = .releasing ∨ r.phase = .cutting) then
      { r with
        state := if off then .offRing else .onRing, bypass := off, ringOut := if off then none else r.ringOut
        phase := .none, sentInTurn := 0, leaveMarked := false, toDrive := [], held := none }
    else r := by
  have off : (if r.phase = .releasing ∧ r.leaveMarked = true then RingState.offRing else .onRing) =
      if decide (r.phase = .releasing) && r.leaveMarked then .offRing else .onRing := by simp
  rw [turnEnd_cutEnd, off, leaveActive_eq]

/-- An octet is the part's address when it has the value of the part and the strap (R164). -/
theorem eq_address_iff (dest : Byte) (r : RingPort) :
    dest = r.address ↔ dest.toNat = r.part.toNat * 4 + r.strap.toNat := by
  have fits : r.address.toNat = r.part.toNat * 4 + r.strap.toNat := by
    rw [RingPort.address, BitVec.toNat_ofNat]
    omega
  rw [← fits, ← BitVec.toNat_inj]

/-- A POLL by its source and destination (R162, R163, R178). -/
theorem pollFrame_eq (s : State) (dest source : Byte) : s.pollFrame dest source = s.setRing
    (if source = 0 then s.ring.frame.count .format
     else if dest = 0 ∨ dest.toNat = s.ring.part.toNat * 4 + s.ring.strap.toNat then
      { s.ring.frame with permit := true }
     else s.ring.frame) := by
  have part : dest = s.frameIn.ring.address ↔ dest.toNat = s.ring.part.toNat * 4 + s.ring.strap.toNat := by
    rw [frameIn_ring, frame_address]
    exact eq_address_iff dest s.ring
  simp only [State.pollFrame, part]
  split
  · rfl
  · split <;> rfl

theorem discardFrame_eq {content : List Bool} {c : RingCounter} (discarded : frameCheck content = .discarded c)
    (s : State) : s.discardFrame content = s.setRing (s.ring.frame.count c) := by
  rw [State.discardFrame, discarded]
  rfl

/-- Settles O48: what each event moves of the ring port, then the checks of a frame by its bits and by its octets. -/
theorem framesMoveRingPort : Obligations.FramesMoveRingPort := by
  refine ⟨fun s => ?_, fun address content => ⟨fun short => ?_, fun long uneven => ?_⟩,
    fun address dest source kind rest long => ?_⟩
  · intro counted opened cut off driven closed
    have driven_is : s.ring.cut.turnEnd.cutEnd = driven := driven_eq s.ring.cut
    have closed_is : s.ring.frame = closed := congrArg (fun r : RingPort => { r with rx := opened }) driven_is
    refine ⟨congrArg s.setRing closed_is, rfl, rfl, fun dest source => ?_, fun content c discarded => ?_, rfl, ?_⟩
    · rw [← closed_is]
      exact congrArg _ (pollFrame_eq s dest source)
    · rw [← closed_is]
      exact ⟨frameCheck_discarded discarded, congrArg _ (discardFrame_eq discarded s)⟩
    · rw [← driven_is]
      rfl
  · have ignored := frameCheck_short short
    exact ⟨ignored, frameCommand_ignored ignored address⟩
  · have discarded := frameCheck_uneven long uneven
    exact ⟨discarded, frameCommand_discarded discarded address⟩
  · intro octets before matching known
    have checked := frameCheck_octets (octets := octets) (Nat.add_le_add_right long 3)
    have kinds : kindPasses octets = true ↔ known := kindPasses_iff dest source kind rest
    rw [withCheck_eq] at checked
    refine ⟨fun unmatched => ?_, fun matched unknown => ?_, fun matched passes => ?_⟩
    · have discarded := checked.trans (if_pos unmatched)
      exact ⟨discarded, frameCommand_discarded discarded address⟩
    · have discarded := (checked.trans (if_neg (not_not.mpr matched))).trans (if_neg (unknown ∘ kinds.mp))
      exact ⟨discarded, frameCommand_discarded discarded address⟩
    · have passed := (checked.trans (if_neg (not_not.mpr matched))).trans (if_pos (kinds.mpr passes))
      refine ⟨passed, fun apart => ?_, fun here is => ?_⟩
      · exact (frameCommand_passed passed address).trans (passedCommand_ignored apart)
      · subst is
        exact (frameCommand_passed passed address).trans (passedCommand_poll here)

end Sys2Proof.Proofs

/-! SUPPORT. PART STATUS, COUNTERS READ and COUNTERS CLEAR. -/

namespace Sys2Proof.Proofs

open Sys2Proof.Machine Sys2Proof.Laws

/-! ## The octets of PART STATUS -/

theorem spinOctet_eq (spin : SpinState) : le 1 spin.code = [if spin = .synced then 1 else 0] := by
  cases spin <;> rfl

theorem roleOctet_eq (role : Role) : le 1 role.code = [if role = .measuring then 2 else 3] := by
  cases role <;> rfl

/-- The two context places of PART STATUS: slot and role of each open context, and 0s for those that are not open (R201). -/
def contextPlaces : List Context → List Byte
  | [] => [0, 0, 0, 0]
  | [c] => le 1 c.slot ++ [if c.role = .measuring then 2 else 3, 0, 0]
  | c :: d :: _ => le 1 c.slot ++ [if c.role = .measuring then 2 else 3] ++ le 1 d.slot ++
      [if d.role = .measuring then 2 else 3]

theorem contextOctets_eq {contexts : List Context} (two : contexts.length ≤ 2) :
    contextOctets contexts = le 1 contexts.length ++ contextPlaces contexts := by
  match contexts, two with
  | [], _ => rfl
  | [c], _ => simp [contextOctets, contextPlaces, roleOctet_eq, List.replicate]
  | [c, d], _ => simp [contextOctets, contextPlaces, roleOctet_eq]

theorem freeSlots_eq (s : State) : s.freeSlots = slotOrder.countP fun i => decide ((s.slot i).state = .free) := by
  simp [State.freeSlots, Record.live]

/-- A select set is the sum of its members' bits (R199). -/
theorem selectSet_sum {n : Nat} (members : Fin n → Bool) : selectSet (List.ofFn members) =
    ((List.finRange n).map fun k : Fin n => if members k then 2 ^ k.val else 0).sum := by
  induction n with
  | zero => rfl
  | succ n ih =>
    have doubled : ((List.finRange n).map fun k : Fin n => if members k.succ then 2 ^ (k.val + 1) else 0) =
        (List.finRange n).map fun k : Fin n => 2 * if members k.succ then 2 ^ k.val else 0 :=
      List.map_congr_left fun k _ => by split <;> omega
    rw [List.ofFn_succ, selectSet_cons, ih, List.finRange_succ, List.map_cons, List.map_map, List.sum_cons,
      ← List.sum_map_mul_left, ← doubled]
    cases members 0 <;> rfl

theorem pendingSet_eq (n : NoticeUnit) : n.pendingSet =
    ((List.finRange 11).map fun k : Fin 11 => if n.entries[k].pending then 2 ^ k.val else 0).sum := by
  rw [← selectSet_sum fun k : Fin 11 => n.entries[k].pending, NoticeUnit.pendingSet, selectSet]
  congr 1
  refine List.ext_getElem (by simp) fun k _ _ => ?_
  simp only [List.getElem_map, Vector.getElem_toList, List.getElem_ofFn]
  rfl

/-- The engine octets are 0s while it is IDLE (R204). -/
theorem engineOctets_eq (engine : Option RejudgeRun) : engineOctets engine = (match engine with
    | none => [0, 0, 0, 0]
    | some run => [1] ++ le 1 run.slot ++ le 2 run.reached) := by
  cases engine <;> rfl

/-- Settles O51: the state that the frame leaves, the octets of the status block by block, and the counters with their clearing. -/
theorem statusAndCountersAreRead : Obligations.StatusAndCountersAreRead := by
  intro s h
  refine ⟨frame_not_active, fun ok two => ?_, fun ok => reading_admitted ok countersRead, fun ok => ?_⟩
  · refine (reading_admitted ok partStatus).trans ?_
    have address : s.frameIn.ring.address = s.ring.address := frame_address s.ring
    have replies : s.frameIn.ring.replies = s.ring.replies := frame_replies s.ring
    have free := freeSlots_eq s.frameIn
    simp only [partStatus, Answer.done, settingOctet_eq, spinOctet_eq, contextOctets_eq two, engineOctets_eq,
      pendingSet_eq, free, address, replies, frameIn_tracker, frameIn_heads, frameIn_freeStrips, frameIn_slot,
      frameIn_armQueue, frameIn_engine, frameIn_notices, List.append_assoc]
    rfl
  · have room : (countersClear s.frameIn).1.ring.replies.length < Config.replyPlaces := by
      show s.ring.frame.replies.length < _
      rw [frame_replies]
      exact ok.room
    exact answering_admitted ok countersClear room

end Sys2Proof.Proofs

/-! SUPPORT. A command's frame, stuffed and closed as it is sent, is received as one frame with its content, and read back as the command. -/

namespace Sys2Proof.Proofs

open Sys2Proof.Machine Sys2Proof.Laws

/-! ## The line code -/

theorem feed_cons (r : Receiver) (b : Bool) (bits : List Bool) :
    r.feed (b :: bits) = (((r.bit b).1.feed bits).1, (r.bit b).2.toList ++ ((r.bit b).1.feed bits).2) := rfl

/-- A bit that brings about no event leaves the rest of the bits to the receiver it gives. -/
theorem feed_silent {r r' : Receiver} {b : Bool} (silent : r.bit b = (r', none)) (bits : List Bool) :
    r.feed (b :: bits) = r'.feed bits := by
  rw [feed_cons, silent]
  rfl

/-- The receiver in a frame after one more 1 of a run. -/
def countOne (r : Receiver) : Receiver := { r with ones := r.ones + 1 }

/-- The receiver in a frame after the 0 that ends a run of content. -/
def takeZero (r : Receiver) : Receiver :=
  { r with ones := 0, afterZero := true, fresh := false, content := r.gathered, zeroKept := decide (r.ones < 4) }

@[simp] theorem countOne_state (r : Receiver) : (countOne r).state = r.state := rfl
@[simp] theorem countOne_ones (r : Receiver) : (countOne r).ones = r.ones + 1 := rfl
@[simp] theorem takeZero_state (r : Receiver) : (takeZero r).state = r.state := rfl
@[simp] theorem takeZero_ones (r : Receiver) : (takeZero r).ones = 0 := rfl

/-- The content that a receiver has been given: what is gathered, and the 1s of the run in progress. -/
def givenContent (r : Receiver) : List Bool := r.content ++ List.replicate r.ones true

theorem givenContent_countOne (r : Receiver) : givenContent (countOne r) = givenContent r ++ [true] := by
  simp [givenContent, countOne, List.replicate_succ']

theorem givenContent_takeZero (r : Receiver) : givenContent (takeZero r) = r.gathered := List.append_nil _

theorem gathered_content {r : Receiver} (few : r.ones < 4) : r.gathered = givenContent r ++ [false] := by
  rw [Receiver.gathered, if_pos few]
  rfl

/-- The 0 after four 1s is a stuffing bit. -/
theorem gathered_stuffing {r : Receiver} (four : r.ones = 4) : r.gathered = givenContent r := by
  rw [Receiver.gathered, if_neg (by omega), List.append_nil]
  rfl

section Frame

variable {r : Receiver} (frame : r.state = .inFrame)
include frame

/-- A 1 of a run shorter than five counts. -/
theorem feed_one (few : r.ones < 5) (bits : List Bool) : r.feed (true :: bits) = (countOne r).feed bits := by
  have apart : r.state ≠ .opened := by rw [frame]; decide
  have sixth : ¬(r.state = .inFrame ∧ r.ones = 5) := by omega
  have run : min 12 (r.ones + 1) = r.ones + 1 := by omega
  refine feed_silent ?_ bits
  rw [bit_one, one_counts apart sixth, run, if_neg (by omega)]
  rfl

/-- A 0 that leaves the content short of its 257th octet takes the run before it as content. -/
theorem feed_zero (few : r.ones < 5) (short : r.gathered.length < Config.longFrameBits) (bits : List Bool) :
    r.feed (false :: bits) = (takeZero r).feed bits := by
  refine feed_silent ?_ bits
  rw [bit_zero, zero_gathers frame (Nat.ne_of_lt few), if_neg (Nat.not_le.mpr short)]
  rfl

/-- The closing delimiter closes the frame with what was given before it. -/
theorem feed_delimiter (few : r.ones < 4) (short : (givenContent r).length ≤ 2048) :
    r.feed delimiter = (.atDelimiter, [.closed (givenContent r)]) := by
  have content := gathered_content few
  have short : r.gathered.length < Config.longFrameBits := by
    rw [content, List.length_append]
    exact Nat.lt_of_le_of_lt (Nat.add_le_add_right short 1) (by decide)
  have run : (takeZero r).feed [true, true, true, true, true, false] =
      (countOne (countOne (countOne (countOne (countOne (takeZero r)))))).feed [false] := by
    iterate 5 rw [feed_one (by simpa using frame) (by simp)]
  have kept : (takeZero r).zeroKept = true := decide_eq_true few
  rw [delimiter, feed_zero frame (by omega) short, run, feed_cons, bit_zero, zero_closes (by simpa using frame) rfl]
  show (Receiver.atDelimiter,
    [RxEvent.closed (if (takeZero r).zeroKept = true then r.gathered.dropLast else r.gathered)]) = _
  rw [if_pos kept, content, List.dropLast_concat]

/-- A stuffed content is gathered as it was before stuffing (R158, R159). -/
theorem feed_stuff (bits : List Bool) (few : r.ones < 4) (short : (givenContent r).length + bits.length ≤ 2048) :
    r.feed (stuff r.ones bits ++ delimiter) = (.atDelimiter, [.closed (givenContent r ++ bits)]) := by
  induction bits generalizing r with
  | nil => rw [List.append_nil]; exact feed_delimiter frame few short
  | cons b rest ih =>
    have room : (givenContent r).length < 2048 := by
      rw [List.length_cons] at short
      omega
    have next {r' : Receiver} (same : r'.state = .inFrame) (fewer : r'.ones < 4)
        (more : givenContent r' = givenContent r ++ [b]) :
        r'.feed (stuff r'.ones rest ++ delimiter) = (.atDelimiter, [.closed (givenContent r ++ b :: rest)]) := by
      have short : (givenContent r').length + rest.length ≤ 2048 := by
        rw [more, List.length_append]
        rw [List.length_cons] at short
        simp only [List.length_cons, List.length_nil]
        omega
      rw [ih same fewer short, more, List.append_assoc, List.singleton_append]
    cases b with
    | false =>
      have content := gathered_content few
      have fits : r.gathered.length < Config.longFrameBits := by
        rw [content, List.length_append]
        exact Nat.lt_of_le_of_lt (Nat.succ_le_of_lt room) (by decide)
      rw [stuff, List.cons_append, feed_zero frame (by omega) fits]
      exact next (r' := takeZero r) frame (Nat.zero_lt_succ _) ((givenContent_takeZero r).trans content)
    | true =>
      rw [stuff]
      split
      · rename_i three
        have four : (countOne r).ones = 4 := by simp [three]
        have content := (gathered_stuffing four).trans (givenContent_countOne r)
        have fits : (countOne r).gathered.length < Config.longFrameBits := by
          rw [content, List.length_append]
          exact Nat.lt_of_le_of_lt (Nat.succ_le_of_lt room) (by decide)
        rw [List.cons_append, List.cons_append, feed_one frame (by omega),
          feed_zero (r := countOne r) frame (by omega) fits]
        exact next (r' := takeZero (countOne r)) frame (Nat.zero_lt_succ _) ((givenContent_takeZero _).trans content)
      · rename_i other
        have fewer : (countOne r).ones < 4 := by
          rw [countOne_ones]
          omega
        rw [List.cons_append, feed_one frame (by omega)]
        exact next (r' := countOne r) frame fewer (givenContent_countOne r)

end Frame

/-- After a delimiter a stuffed content and its closing delimiter are received as one closed frame. -/
theorem feed_frame {bits : List Bool} (short : bits.length ≤ 2048) :
    Receiver.atDelimiter.feed (stuff 0 bits ++ delimiter) = (.atDelimiter, [.closed bits]) := by
  cases bits with
  | nil => rfl
  | cons b rest =>
    rw [List.length_cons] at short
    cases b with
    | false =>
      refine feed_stuff (r := { Receiver.atDelimiter with state := .inFrame, content := [false], zeroKept := true })
        rfl rest (by decide) ?_
      show 1 + rest.length ≤ 2048
      omega
    | true =>
      refine feed_stuff (r := { Receiver.atDelimiter with state := .inFrame, fresh := true, ones := 1 })
        rfl rest (by decide) ?_
      show 1 + rest.length ≤ 2048
      omega

/-! ## Every request body is read back -/

/-- The body that carries a well-formed request is read back as the command (R202). -/
theorem roundTrip (i : Instr) : RoundTrip.Statement i := by
  cases i with
  | arm h id f => exact RoundTrip.arm h id f
  | find h states verdicts flags => exact RoundTrip.find h states verdicts flags
  | amend h ref f => exact RoundTrip.amend h ref f
  | templateWrite h f => exact RoundTrip.templateWrite h f
  | trackerSet h f => exact RoundTrip.trackerSet h f
  | headSet h head f => exact RoundTrip.headSet h head f
  | materialWrite h entry f => exact RoundTrip.materialWrite h entry f
  | readStrips h ref form first count => exact RoundTrip.readStrips h ref form first count
  | limitWrite h set f => exact RoundTrip.limitWrite h set f
  | retireNow h ref option => exact RoundTrip.retireNow h ref option
  | retireDeferred h ref => exact RoundTrip.retireDeferred h ref
  | retireForce h ref => exact RoundTrip.retireForce h ref
  | stationsWrite h f => exact RoundTrip.stationsWrite h f
  | noticeMask h mask => exact RoundTrip.noticeMask h mask
  | malformed h code body => exact RoundTrip.malformed h code body
  | disarm | lookup | readZones | rejudge | claim | release => exact roundTrip_of rfl rfl (parseRef_octets _ _)
  | templateRead | headEnable | headDisable | headRead | materialClear | materialRead | poolStatus | poolSet | limitRead
  | setAddress | joinRing | leaveRing | fetchNotice | partStatus | countersRead | countersClear | restart =>
    exact roundTrip_of rfl rfl rfl
  | ignoredBroadcast | poll | frameDiscard | longFrame | abort | idleRun | takeTurn | replySent | turnEnd | turnCut
  | cutEnd | entryChange | litEdge | darkEdge | advancePulse | stall | spinPulse | indexPulse | spinTimeout | headReport
  | corrupt | stray | silenceTimeout | shotService | rejudgeStep | powerOn | lineIdleGap | delimiterReceived =>
    exact roundTrip_none rfl

theorem requests_iff (h : Header) : h.requests = true ↔ h.source ≠ 0 ∧ h.dest ≠ 0 := by
  simp [Header.requests]

/-- A well-formed request comes from a source and goes to one station, but for the broadcast RESTART from address 1 (R162, R166). -/
theorem wellFormed_header {i : Instr} {h : Header} {code : Byte} {body : List Byte} (formed : i.wellFormed = true)
    (octets : requestOctets i = some (h, code, body)) :
    h.source ≠ 0 ∧ (h.dest ≠ 0 ∨ i = .restart h ∧ h.source = 1) := by
  have single {h : Header} {p : Prop} (requests : h.requests = true) : h.source ≠ 0 ∧ (h.dest ≠ 0 ∨ p) :=
    ((requests_iff h).mp requests).imp id .inl
  cases i with
  | restart =>
    cases octets
    rcases Bool.or_eq_true_iff.mp formed with requests | broadcast
    · exact single requests
    · obtain ⟨-, source⟩ := Bool.and_eq_true_iff.mp broadcast
      have first := of_decide_eq_true source
      exact ⟨by rw [first]; decide, .inr ⟨rfl, first⟩⟩
  | malformed =>
    cases octets
    exact single (Bool.and_eq_true_iff.mp formed).1
  | retireNow =>
    cases octets
    exact single (Bool.and_eq_true_iff.mp (Bool.and_eq_true_iff.mp formed).1).1
  | ignoredBroadcast | poll | frameDiscard | longFrame | abort | idleRun | takeTurn | replySent | turnEnd | turnCut
  | cutEnd | entryChange | litEdge | darkEdge | advancePulse | stall | spinPulse | indexPulse | spinTimeout | headReport
  | corrupt | stray | silenceTimeout | shotService | rejudgeStep | powerOn | lineIdleGap | delimiterReceived =>
    exact nomatch octets
  | _ =>
    cases octets
    exact single formed

/-- The command that the header, code and body of a well-formed request stand for is that request (R163, R166). -/
theorem requestCommand_octets {i : Instr} {h : Header} {code : Byte} {body : List Byte} (formed : i.wellFormed = true)
    (octets : requestOctets i = some (h, code, body)) : requestCommand h code body = i := by
  obtain ⟨-, single | ⟨rfl, first⟩⟩ := wellFormed_header formed octets
  · rw [requestCommand, if_neg single]
    exact roundTrip i formed h code body octets
  · cases octets
    unfold requestCommand
    split
    · exact if_pos ⟨rfl, first, rfl⟩
    · rfl

/-! ## A frame with its check -/

theorem withCheck_take (octets : List Byte) : (withCheck octets).take ((withCheck octets).length - 2) = octets := by
  simp [withCheck_eq]

/-- A frame that carries its check passes with its octets when its kind, length and source do. -/
theorem frameCheck_withCheck {octets : List Byte} (long : 3 ≤ octets.length)
    (passes : kindPasses (withCheck octets) = true) :
    frameCheck (bitsOf (withCheck octets)) = .passed (withCheck octets) := by
  have long : 5 ≤ (withCheck octets).length := by
    rw [withCheck_eq, List.length_append]
    exact Nat.add_le_add_right long 2
  rw [frameCheck_octets long, withCheck_take, if_neg (not_not.mpr rfl), if_pos passes]

/-- A POLL frame at its destination is read back (R163). -/
theorem frameCommand_pollFrame {address dest source : Byte} (known : source ≠ 0) (here : dest = address ∨ dest = 0) :
    frameCommand address (bitsOf (pollFrameOctets dest source)) = .poll dest source := by
  have passes : kindPasses (withCheck [dest, source, kindPoll]) = true := by
    rw [withCheck_eq]
    exact (kindPasses_iff ..).mpr (.inr (.inr ⟨rfl, rfl, known⟩))
  rw [pollFrameOctets, frameCommand_passed (frameCheck_withCheck (Nat.le_refl _) passes), withCheck_eq]
  exact passedCommand_poll here.symm

/-- A REQUEST frame at its destination is the command of its header, code and body (R163). -/
theorem frameCommand_requestFrame {address : Byte} {h : Header} (known : h.source ≠ 0)
    (here : h.dest = address ∨ h.dest = 0) (code : Byte) (body : List Byte) :
    frameCommand address (bitsOf (requestFrame h code body)) = requestCommand h code body := by
  have passes : kindPasses (withCheck ([h.dest, h.source, kindRequest, code, h.tag] ++ body)) = true := by
    rw [withCheck_eq]
    refine (kindPasses_iff ..).mpr (.inl ⟨rfl, ?_, known⟩)
    simp
  have here : ¬(h.dest ≠ 0 ∧ h.dest ≠ address) := by tauto
  have long : 3 ≤ ([h.dest, h.source, kindRequest, code, h.tag] ++ body).length := by simp
  rw [requestFrame, frameCommand_passed (frameCheck_withCheck long passes), withCheck_eq]
  simp only [List.cons_append, List.nil_append, passedCommand, if_neg here]
  simp [kindRequest, kindPoll]

/-! ## Every command's frame -/

/-- The commands that a frame carries: a POLL, a broadcast without effect, and the requests. -/
theorem commandFrame_some {i : Instr} {octets : List Byte} (frame : commandFrame i = some octets) :
    (∃ dest source, i = .poll dest source ∧ octets = pollFrameOctets dest source) ∨
    (∃ source code body, i = .ignoredBroadcast source code body ∧
      octets = requestFrame { dest := 0, source, tag := 0 } code body) ∨
    ∃ h code body, requestOctets i = some (h, code, body) ∧ octets = requestFrame h code body := by
  unfold commandFrame at frame
  split at frame
  · exact .inl ⟨_, _, rfl, (Option.some.inj frame).symm⟩
  · exact .inr (.inl ⟨_, _, _, rfl, (Option.some.inj frame).symm⟩)
  · obtain ⟨⟨h, code, body⟩, carried, is⟩ := Option.map_eq_some_iff.mp frame
    exact .inr (.inr ⟨h, code, body, carried, is.symm⟩)

/-- A broadcast that is no RESTART from address 1 is read as one without effect (R166). -/
theorem requestCommand_broadcast {source code : Byte} {body : List Byte}
    (formed : (Instr.ignoredBroadcast source code body).wellFormed = true) :
    requestCommand { dest := 0, source, tag := 0 } code body = .ignoredBroadcast source code body := by
  have other : ¬(code = restartCode ∧ source = 1 ∧ body = []) := by
    rintro ⟨rfl, rfl, rfl⟩
    exact absurd formed (by decide)
  exact (if_pos rfl).trans (if_neg other)

/-- Settles O60: the line code gives the content back, and the content is the command by the kind of its frame. -/
theorem framesReadBackAsCommands : Obligations.FramesReadBackAsCommands := by
  intro i address octets formed frame short here hereAlso
  have bits : (bitsOf octets).length ≤ 2048 := by
    rw [bitsOf_length]
    omega
  refine ⟨feed_frame bits, ?_⟩
  rcases commandFrame_some frame with ⟨dest, source, rfl, rfl⟩ | ⟨source, code, body, rfl, rfl⟩ |
    ⟨h, code, body, carried, rfl⟩
  · exact frameCommand_pollFrame (of_decide_eq_true formed) (hereAlso dest source rfl)
  · have known : source ≠ 0 := of_decide_eq_true (Bool.and_eq_true_iff.mp formed).1
    exact (frameCommand_requestFrame known (.inr rfl) code body).trans (requestCommand_broadcast formed)
  · have known := (wellFormed_header formed carried).1
    exact (frameCommand_requestFrame known (here h code body carried) code body).trans
      (requestCommand_octets formed carried)

end Sys2Proof.Proofs

/-! SUPPORT. NOTICE MASK and FETCH NOTICE: the kind that is selected, and the attention line that each leaves. -/

namespace Sys2Proof.Proofs

open Sys2Proof.Machine Sys2Proof.Laws

/-! ## NOTICE MASK -/

/-- A mask with a bit beyond the eleven kinds changes nothing, and the refusal gives the mask and the pending set (R187, R199). -/
theorem noticeMask_range {mask : Half} (beyond : 2048 ≤ mask.toNat) (s : State) :
    noticeMask mask s = (s, .refuse .range 1 (le 2 s.notices.mask.toNat ++ le 2 s.notices.pendingSet)) :=
  if_pos beyond

theorem noticeMask_replaces {mask : Half} (known : mask.toNat < 2048) (s : State) :
    noticeMask mask s = (s.setNotices (NoticeUnit.settle { s.notices with mask := mask.setWidth 11 }),
      .done (le 2 mask.toNat ++ le 2 s.notices.pendingSet)) :=
  if_neg (Nat.not_le.mpr known)

/-- The attention line under a new mask follows the mask's bit of each kind (R186, R187). -/
theorem masked_attention_iff (n : NoticeUnit) (mask : Half) :
    (NoticeUnit.settle { n with mask := mask.setWidth 11 }).attention = true ↔
      ∃ k : Fin 11, n.entries[k].pending = true ∧ mask.getLsbD k = true := by
  simp [attention_settled_iff]

/-! ## FETCH NOTICE -/

theorem subjectOctets_eq (subject : Subject) : subject.octets = (match subject with
    | .none => [0, 0, 0, 0, 0, 0]
    | .head n => [1] ++ le 4 n ++ [0]
    | .shell id => [2] ++ le 4 id.toNat ++ [0]
    | .slot i generation => [3] ++ le 4 i ++ [generation]) := by
  cases subject <;> rfl

/-- The selected kind is pending and enabled, and none of higher priority is (R188). -/
theorem selected_eq_some_iff (n : NoticeUnit) (k : Fin 11) : n.selected = some k ↔
    (n.entries[k].pending = true ∧ n.mask.getLsbD k = true) ∧
      ∀ j, j < k → n.entries[j].pending = true → n.mask.getLsbD j = false := by
  rw [NoticeUnit.selected, noticeOrder, ← Fin.find?_eq_find?_finRange, Fin.find?_eq_some_iff]
  simp

/-- No kind is selected when every pending kind is masked (R188). -/
theorem selected_eq_none_iff (n : NoticeUnit) : n.selected = none ↔
    ∀ k : Fin 11, n.entries[k].pending = true → n.mask.getLsbD k = false := by
  rw [NoticeUnit.selected, noticeOrder, ← Fin.find?_eq_find?_finRange, Fin.find?_eq_none_iff]
  simp

theorem fetchNotice_none {s : State} (none : s.notices.selected = none) :
    fetchNotice s = (s, .done ([0, 0] ++ Subject.none.octets ++ le 2 s.notices.pendingSet)) := by
  rw [fetchNotice, none]

theorem fetchNotice_some {s : State} {k : Fin 11} (first : s.notices.selected = some k) :
    fetchNotice s = (s.setNotices (s.notices.fetched k),
      .done (le 1 (k.val + 1) ++ le 1 s.notices.entries[k].count ++ s.notices.entries[k].subject.octets ++
        le 2 (s.notices.fetched k).pendingSet)) := by
  rw [fetchNotice, first]

/-- A fetch clears the kind it selects. -/
theorem fetched_entry_same (n : NoticeUnit) (k : Fin 11) : (n.fetched k).entries[k] = {} := by
  simp [NoticeUnit.fetched, NoticeUnit.settle]

theorem fetched_entry_other (n : NoticeUnit) {k j : Fin 11} (apart : j ≠ k) :
    (n.fetched k).entries[j] = n.entries[j] := by
  have apart : k.val ≠ j.val := fun eq => apart (Fin.ext eq.symm)
  simp [NoticeUnit.fetched, NoticeUnit.settle, apart]

/-- After a fetch the attention line follows the kinds that are left (R186, R188). -/
theorem fetched_attention_iff (n : NoticeUnit) (k : Fin 11) : (n.fetched k).attention = true ↔
    ∃ j : Fin 11, j ≠ k ∧ n.entries[j].pending = true ∧ n.mask.getLsbD j = true := by
  refine (attention_settled_iff _).trans (exists_congr fun j => ?_)
  show (n.fetched k).entries[j].pending = true ∧ n.mask.getLsbD j = true ↔ _
  by_cases same : j = k
  · subst same
    rw [fetched_entry_same]
    simp
  · rw [fetched_entry_other n same]
    simp [same]

/-- Settles O50: the mask by its bits beyond the eleven kinds, then the fetch by the kind that is selected. -/
theorem noticesAreMaskedAndFetched : Obligations.NoticesAreMaskedAndFetched := by
  intro s h pending subject
  have pendingSet (n : NoticeUnit) : n.pendingSet = pending n := pendingSet_eq n
  have octets (x : Subject) : x.octets = subject x := subjectOctets_eq x
  refine ⟨fun mask ok => ⟨fun beyond => ?_, fun known => ?_⟩,
    fun ok => ⟨fun masked => ?_, fun k held enabled first => ?_⟩⟩
  · rw [← pendingSet]
    exact answering_ran ok (noticeMask_range beyond _) rfl
  · refine ⟨_, masked_attention_iff s.notices mask, ?_⟩
    rw [← pendingSet]
    exact answering_ran ok (noticeMask_replaces known _) rfl
  · have none : s.notices.selected = none := (selected_eq_none_iff _).mpr masked
    rw [← pendingSet]
    exact answering_ran ok (fetchNotice_none none) rfl
  · have selected : s.notices.selected = some k := (selected_eq_some_iff ..).mpr ⟨⟨held, enabled⟩, first⟩
    refine ⟨_, fetched_attention_iff s.notices k, ?_⟩
    intro left
    rw [← pendingSet, ← octets]
    exact answering_ran ok (fetchNotice_some selected) rfl

end Sys2Proof.Proofs

/-! SUPPORT. The step that takes a waiting command, beside `step_idle`. -/

namespace Sys2Proof.Proofs

open Sys2Proof.Machine

theorem step_front {s : State} {c : Instr} {rest : List Instr} (front : s.pending = c :: rest) :
    step s = exec c { s with pending := rest } := by rw [step, front]

/-- Settles O1: the placed queue has the command at its front, and taking it leaves the rest. -/
theorem stepRunsFrontCommand : Obligations.StepRunsFrontCommand := by
  intro c rest s
  exact step_front rfl

end Sys2Proof.Proofs
